-- ==== Sys2Proof/Word.lean ====
section
/-! DEFINITION. The words of the block: bytes, the millisecond clock, channel-store elements, and the clamp of the spec's notation. -/

namespace Sys2Proof

/-- A byte of the wire (00_scope.md R8). -/
abbrev Byte := BitVec 8

/-- A value of the millisecond clock `now`, `TIME_W` = 32 bits (R7, R8). -/
abbrev Time := BitVec 32

/-- An element of the channel store: 32 bits, read as a two's-complement integer (10_state.md R15). -/
abbrev Chan := BitVec 32

/-- `clamp(v, lo, hi)` of the spec's notation (R8). -/
def clamp (v lo hi : Int) : Int :=
  if v < lo then lo else if hi < v then hi else v

end Sys2Proof
end

