-- ==== Sys2Proof/Config.lean ====
section
/-! DEFINITION. The implementation parameters of 00_scope.md R7 with this hardware's values, and the free values: opaque constants of which nothing can be
proved, applied to a counter of State wherever the spec leaves a value open. -/

namespace Sys2Proof.Config

/-- `RX_BUF_SIZE`: capacity of the receive buffer (R7). -/
@[simp, reducible] def rxBufSize : Nat := 64
/-- `LEN_MIN`: smallest valid length byte (R7, R61). -/
@[simp, reducible] def lenMin : Nat := 3
/-- `LEN_MAX`: largest valid length byte (R7, R61). -/
@[simp, reducible] def lenMax : Nat := 62
/-- `PAYLOAD_MAX`: largest payload (R7). -/
@[simp, reducible] def payloadMax : Nat := 60
/-- `RX_BATCH`: most bytes one STEP reads (R7, R115). -/
@[simp, reducible] def rxBatch : Nat := 32
/-- `PKT_TIMEOUT_MS`: packet timeout, strict (R7, R123). -/
@[simp, reducible] def pktTimeoutMs : Nat := 100
/-- `LINK_DOWN_MS`: failsafe timeout, strict (R7, R125; 93 U2). -/
@[simp, reducible] def linkDownMs : Nat := 120000
/-- `SEND_PERIOD_MS`: least time between periodic sends, inclusive (R7, R165). -/
@[simp, reducible] def sendPeriodMs : Nat := 10
/-- `N_CH`: number of channels (R7). -/
@[simp, reducible] def nCh : Nat := 16
/-- `CH_BITS`: bits of a channel code on the wire (R7, 30_encoding.md R65). -/
@[simp, reducible] def chBits : Nat := 11
/-- `BAUD`: line rate of the transport (R7). "No rule depends on it", so nothing of the model reads it. -/
@[simp, reducible] def baud : Nat := 420000
/-- `US_MIN` (R7). -/
@[simp, reducible] def usMin : Int := 1000
/-- `US_MID`: also what a read of a channel that does not exist yields (R7, R155). -/
@[simp, reducible] def usMid : Int := 1500
/-- `US_MAX` (R7). -/
@[simp, reducible] def usMax : Int := 2000
/-- `CODE_MIN` (R7). -/
@[simp, reducible] def codeMin : Int := 191
/-- `CODE_MAX` (R7). -/
@[simp, reducible] def codeMax : Int := 1792
/-- `CODE_SPAN` (R7). -/
@[simp, reducible] def codeSpan : Int := 1601
/-- `US_SPAN` (R7). -/
@[simp, reducible] def usSpan : Int := 1000
/-- `CRC_POLY` (R7, R90). -/
@[simp, reducible] def crcPoly : Byte := 0xD5
/-- `ADDR_FC`: the flight-controller address (R7, R63). -/
@[simp, reducible] def addrFc : Byte := 0xC8
/-- `TYPE_RC` (R7, R64). -/
@[simp, reducible] def typeRc : Byte := 0x16
/-- `ATT_DIV`: raw attitude units per degree (R7, R141). -/
@[simp, reducible] def attDiv : Nat := 175
/-- `CH_RESET` (R7, R15). -/
@[simp, reducible] def chReset : Chan := 1500

/-- The five type codes the spec keeps as named parameters (R64, 92 D10). -/
structure TypeMap where
  gps : Byte
  batt : Byte
  linkstat : Byte
  att : Byte
  fmode : Byte
deriving DecidableEq, Repr

/-- "The six parameters must be pairwise different" (R64). -/
def TypeMap.distinct (m : TypeMap) : Bool :=
  [typeRc, m.gps, m.batt, m.linkstat, m.att, m.fmode].Nodup

/-- The values of this hardware (R7, R64). PRESUMED: the spec took the five values from general knowledge (93 G2), log 21; unsafe. -/
def types : TypeMap := ⟨0x02, 0x08, 0x14, 0x1E, 0x21⟩

/-- `IGNORE_TEL_RESET` (R7, R24). -/
def ignoreTelReset : Bool := false

/-- Free value: a choice the spec leaves open both ways (46 R188 a frame in flight at STOP, log 8; 91 N9 the lexical form of a command line, log 16). -/
opaque freeBit : Nat → Bool

/-- Free value: how many bytes of a failed frame reached the line (20 R45, 60 R208, 93 U5; log 7). -/
opaque freeKept : Nat → Nat

/-- Free value: whether the wire accepts an emit for which the environment has put no answer into State (20 R45, 45 R169; log 9). -/
opaque freeAccept : Nat → Bool

end Sys2Proof.Config
end

