-- ==== Sys2Proof/Syntax.lean ====
section
/-! DEFINITION. The operations of the block: one constructor of `Instr` for each of the 50 rows of spec/opcode_table.json, and the form in which an
invocation of one reaches the machine. -/

namespace Sys2Proof

/-- The control mode (10_state.md R25): joystick is 0, manual is 1. -/
inductive Mode where
  | joystick
  | manual
deriving DecidableEq, Repr

/-- How the read phase of a STEP ended (42_link_engine.md R115). -/
inductive ReadEnd where
  | full
  | nodata
  | error
deriving DecidableEq, Repr

/-- A control input that the scheduler's poll found (45_send_scheduler.md R171). -/
inductive Control where
  /-- CH_SET (44 R156). -/
  | chSet (k : Int) (us : Chan)
  /-- SET_MODE (46 R184). -/
  | setMode (m : Mode)
  /-- JOY_AXIS (46 R186). The width of the axis number is the model's choice, as in `Instr.joyAxis` (log 33). -/
  | joyAxis (axis : Byte) (a : BitVec 16)
  /-- The drained command `sendChannels`: FORCE_SEND with the `now` of the iteration (46 R183). -/
  | forceSend
deriving DecidableEq, Repr

/-- The operations, in the order of spec/opcode_table.json. A received wire row carries its payload `p`; `now` is the clock value that the operation was
given (R28); channel numbers are the host's, from 1. R186 calls a joystick axis "a small integer": that it is 8 bits unsigned is the model's choice (log 33). -/
inductive Instr where
  -- FRAME rows
  | rc (p : List Byte) (now : Time)
  | gps (p : List Byte)
  | batt (p : List Byte)
  | linkstat (p : List Byte)
  | att (p : List Byte)
  | fmode (p : List Byte)
  | shortPayload (ty : Byte) (p : List Byte)
  | unknown (ty : Byte) (p : List Byte)
  | foreignAddr (addr ty : Byte) (p : List Byte)
  | txRc
  -- FUNC rows
  | crc8 (bs : List Byte)
  | frameCheck (buf : List Byte) (len : Nat)
  | frameEncode (addr ty : Byte) (p : List Byte)
  | code2usRaw (code : Int)
  | code2us (code : BitVec 11)
  | us2code (us : Chan)
  | pack (codes : Vector Chan 16)
  | unpack (p : List Byte)
  | packChannels (us : Vector Chan 16)
  | unpackChannels (p : List Byte)
  | attDegrees
  -- OP rows
  | rxb (b : Byte) (t : Time)
  | consume (now : Time)
  | waitHdr
  | resync
  | waitBody
  | crcOk (now : Time)
  | crcBad
  | tmo (now : Time)
  | ldn (now : Time)
  | step (rx : List (Byte × Time)) (fin : ReadEnd) (now : Time)
  | dispatch (addr ty : Byte) (p : List Byte) (now : Time)
  | chGet (k : Int)
  | chSet (k : Int) (us : Chan)
  | chSnapshot
  | tick (now : Time)
  | sendBuild
  | sendGate
  | sendEmit
  | send (now : Time)
  | forceSend (now : Time)
  | schedIter (inputs : List Control) (now : Time)
  | setMode (m : Mode)
  | setIgnoreTel (v : Bool)
  | joyAxis (axis : Byte) (a : BitVec 16)
  | stop
  -- TEXT rows
  | setChannel (i us : Int)
  | setChannels (pairs : List (Int × Int))
  | sendChannels (now : Time)
  | setModeText (m : Mode)
deriving DecidableEq, Repr

/-- The two agents that execute composite operations (00_scope.md R5). -/
inductive Engine where
  | rx
  | tx
deriving DecidableEq, Repr

/-- One invocation as bytes. A frame and a command line have the encoding the spec gives them; neither holds the clock value it is handled with, which
comes beside it (R28). A FUNC or OP row has no binary form in the spec (R78): `call` is a record of the model's own (log 2). -/
inductive Encoded where
  /-- A received frame, from sync byte to CRC byte, handled at clock value `now`. -/
  | rxFrame (now : Time) (bytes : List Byte)
  /-- The header of the one frame the block transmits: an order to form it (R73; log 15). -/
  | txFrame (bytes : List Byte)
  /-- A command line in ASCII, without its line end, drained at clock value `now` (R76). -/
  | line (now : Time) (bytes : List Byte)
  /-- A call record: the row's place in the opcode table, then the operands (log 2). -/
  | call (bytes : List Byte)
deriving DecidableEq, Repr

end Sys2Proof
end

