-- ==== Sys2Proof/Machine/Operands.lean ====
section
/-! DEFINITION. Operand assembly: big-endian fields of a payload (20_memory.md R46), the type map and the payload sizes (30_encoding.md R64, R71), and
the channel index (20_memory.md R43). -/

namespace Sys2Proof

/-- `be16` of 00_scope.md R8: the first wire byte is the most significant. -/
def be16 (b0 b1 : Byte) : BitVec 16 := b0 ++ b1

/-- `be24` of R8. -/
def be24 (b0 b1 b2 : Byte) : BitVec 24 := b0 ++ b1 ++ b2

/-- `be32` of R8. -/
def be32 (b0 b1 b2 b3 : Byte) : BitVec 32 := b0 ++ b1 ++ b2 ++ b3

/-- The bytes of a 16-bit number, most significant first. -/
def bytes16 (v : BitVec 16) : List Byte := [v.extractLsb' 8 8, v.extractLsb' 0 8]

/-- The bytes of a 32-bit number, most significant first. -/
def bytes32 (v : BitVec 32) : List Byte :=
  [v.extractLsb' 24 8, v.extractLsb' 16 8, v.extractLsb' 8 8, v.extractLsb' 0 8]

/-- Payload byte `p[k]` (30_encoding.md section 3); 0 past the end, where no rule reads. -/
def byteAt (p : List Byte) (k : Nat) : Byte := p.getD k 0

/-- The six dispatched frame types (R64). -/
inductive Kind where
  | rc
  | gps
  | batt
  | linkstat
  | att
  | fmode
deriving DecidableEq, Repr

/-- The "payload size used" of R64, the `need` of R71. -/
def Kind.need : Kind → Nat
  | .rc => 22
  | .gps => 15
  | .batt => 8
  | .linkstat => 10
  | .att => 6
  | .fmode => 1

/-- The type switch of R64 and 43_dispatch.md R135, for any choice of the five parameters. -/
def kindOf (m : Config.TypeMap) (ty : Byte) : Option Kind :=
  if ty = Config.typeRc then some .rc
  else if ty = m.gps then some .gps
  else if ty = m.batt then some .batt
  else if ty = m.linkstat then some .linkstat
  else if ty = m.att then some .att
  else if ty = m.fmode then some .fmode
  else none

/-- The host's channel number `k` names `ch[k-1]` for 1 to 16 and nothing otherwise (20_memory.md R43). -/
def channelIndex (k : Int) : Option (Fin 16) :=
  if h : 1 ≤ k ∧ k ≤ Config.nCh then some ⟨(k - 1).toNat, by simp only [Config.nCh] at h; omega⟩ else none

/-- The ingress's range check (46 R181). -/
def inCommandRange (i us : Int) : Bool := 1 ≤ i && i ≤ Config.nCh && Config.usMin ≤ us && us ≤ Config.usMax

/-- The agent that executes an operation (30_encoding.md R78): the RX engine, the TX scheduler, or `none` for the host and for pure functions. A text
command is applied by the TX scheduler that drains it (46 R180); a `setChannel` out of range and a `setChannels` with no pair in range never reach it: the
host's ingress rejects them (46 R181, R182, 60_exceptions.md R209). -/
def Instr.engine : Instr → Option Engine
  | .rc _ _ | .gps _ | .batt _ | .linkstat _ | .att _ | .fmode _ => some .rx
  | .shortPayload _ _ | .unknown _ _ | .foreignAddr _ _ _ => some .rx
  | .rxb _ _ | .consume _ | .waitHdr | .resync | .waitBody | .crcOk _ | .crcBad => some .rx
  | .tmo _ | .ldn _ | .step _ _ _ | .dispatch _ _ _ _ => some .rx
  | .txRc | .tick _ | .sendBuild | .sendGate | .sendEmit | .send _ | .forceSend _ | .schedIter _ _ => some .tx
  | .setChannel i us => if inCommandRange i us then some .tx else none
  | .setChannels pairs => if pairs.any (fun q => inCommandRange q.1 q.2) then some .tx else none
  | .sendChannels _ | .setModeText _ => some .tx
  | .crc8 _ | .frameCheck _ _ | .frameEncode _ _ _ | .code2usRaw _ | .code2us _ | .us2code _ => none
  | .pack _ | .unpack _ | .packChannels _ | .unpackChannels _ | .attDegrees => none
  | .chGet _ | .chSet _ _ | .chSnapshot | .setMode _ | .setIgnoreTel _ | .joyAxis _ _ | .stop => none

end Sys2Proof
end

