-- ==== Sys2Proof/Machine/CommandText.lean ====
section
/-! DEFINITION. The text form of the host's commands (30_encoding.md R76): words separated by a space, decimal integers, pairs `i=us`. A line in exactly
that form is a command. A line that is none of the four forms is an invalid command (46_control_inputs.md R189). A line that would be one of the four
forms but for a lexical point the spec leaves open (91 N9: leading zeros, signs, tabs, trailing text, letter case) is kept apart (log 16). -/

namespace Sys2Proof

/-- Characters as bytes. -/
def ascii (cs : List Char) : List Byte := cs.map fun c => BitVec.ofNat 8 c.toNat

/-- The word `setChannel`. -/
def wordSetChannel : List Byte := ascii ['s', 'e', 't', 'C', 'h', 'a', 'n', 'n', 'e', 'l']
/-- The word `setChannels`. -/
def wordSetChannels : List Byte := ascii ['s', 'e', 't', 'C', 'h', 'a', 'n', 'n', 'e', 'l', 's']
/-- The word `sendChannels`. -/
def wordSendChannels : List Byte := ascii ['s', 'e', 'n', 'd', 'C', 'h', 'a', 'n', 'n', 'e', 'l', 's']
/-- The word `setMode`. -/
def wordSetMode : List Byte := ascii ['s', 'e', 't', 'M', 'o', 'd', 'e']
/-- The word `joystick`. -/
def wordJoystick : List Byte := ascii ['j', 'o', 'y', 's', 't', 'i', 'c', 'k']
/-- The word `manual`. -/
def wordManual : List Byte := ascii ['m', 'a', 'n', 'u', 'a', 'l']

/-- The character `=` of a pair. -/
def charEquals : Byte := 0x3D
/-- The space between words. -/
def charSpace : Byte := 0x20

/-- The words of a line: the pieces between separators. -/
def splitOn (sep : Byte) : List Byte → List (List Byte)
  | [] => [[]]
  | b :: bs =>
    if b = sep then [] :: splitOn sep bs
    else match splitOn sep bs with
      | [] => [[b]]
      | w :: ws => (b :: w) :: ws

/-- Words joined by a separator. -/
def joinWith (sep : Byte) : List (List Byte) → List Byte
  | [] => []
  | [w] => w
  | w :: w' :: ws => w ++ sep :: joinWith sep (w' :: ws)

/-- The digit character of `d`, for `d` below 10. -/
def digitChar (d : Nat) : Byte := BitVec.ofNat 8 (48 + d)

/-- Whether a byte is a decimal digit. -/
def isDigit (b : Byte) : Bool := 48 ≤ b.toNat && b.toNat ≤ 57

/-- Decimal digits of `n` in front of `acc`; the first argument bounds the number of digits. -/
def decDigitsAux : Nat → Nat → List Byte → List Byte
  | 0, _, acc => acc
  | f + 1, n, acc =>
    if n / 10 = 0 then digitChar (n % 10) :: acc else decDigitsAux f (n / 10) (digitChar (n % 10) :: acc)

/-- The decimal form of a number, without leading zeros. -/
def decDigits (n : Nat) : List Byte := decDigitsAux (n + 1) n []

/-- The number that a string of digits stands for. -/
def digitsValue (w : List Byte) : Nat := w.foldl (fun v b => 10 * v + (b.toNat - 48)) 0

/-- A decimal integer in its one settled form: digits, no leading zero (other forms: log 16). -/
def parseDec (w : List Byte) : Option Int :=
  if w.all isDigit && (w.length == 1 || (1 < w.length && w.head? != some 0x30)) then some (digitsValue w : Int) else none

/-- A pair `<i>=<us>` "with no spaces inside" (R76). -/
def parsePair (w : List Byte) : Option (Int × Int) :=
  match splitOn charEquals w with
  | [a, b] =>
    match parseDec a, parseDec b with
    | some i, some us => some (i, us)
    | _, _ => none
  | _ => none

/-- All pairs of a `setChannels` line, or none if one of them cannot be parsed (R182: such a line is dropped whole). -/
def parsePairs : List (List Byte) → Option (List (Int × Int))
  | [] => some []
  | w :: ws =>
    match parsePair w, parsePairs ws with
    | some q, some qs => some (q :: qs)
    | _, _ => none

/-- The mode word of `setMode` (R184). -/
def parseMode (w : List Byte) : Option Mode :=
  if w = wordJoystick then some .joystick else if w = wordManual then some .manual else none

/-- A command line in exactly the form of R76. -/
def parseCommand (now : Time) (line : List Byte) : Option Instr :=
  match splitOn charSpace line with
  | [] => none
  | kw :: args =>
    if kw = wordSetChannel then
      match args with
      | [a, b] =>
        match parseDec a, parseDec b with
        | some i, some us => some (.setChannel i us)
        | _, _ => none
      | _ => none
    else if kw = wordSetChannels then
      if args.isEmpty then none else (parsePairs args).map .setChannels
    else if kw = wordSendChannels then
      if args.isEmpty then some (.sendChannels now) else none
    else if kw = wordSetMode then
      match args with
      | [m] => (parseMode m).map .setModeText
      | _ => none
    else none

/-- A line with letters lowered and tabs and line ends read as spaces, cut into its non-empty words: what is left when the open lexical points are ignored. -/
def looseWords (line : List Byte) : List (List Byte) :=
  let soft (b : Byte) : Byte :=
    if 65 ≤ b.toNat ∧ b.toNat ≤ 90 then b + 32
    else if b = 0x09 ∨ b = 0x0A ∨ b = 0x0D then charSpace
    else b
  (splitOn charSpace (line.map soft)).filter (fun w => !w.isEmpty)

/-- Lower-case form of a command word. -/
def lowered (w : List Byte) : List Byte :=
  w.map fun b => if 65 ≤ b.toNat ∧ b.toNat ≤ 90 then b + 32 else b

/-- A decimal integer with an optional sign and any leading zeros. -/
def looseDec (w : List Byte) : Option Int :=
  let signed := w.head? = some 0x2B ∨ w.head? = some 0x2D
  let d := if signed then w.tail else w
  if d.isEmpty || !d.all isDigit then none
  else some (if w.head? = some 0x2D then -(digitsValue d : Int) else digitsValue d)

/-- A pair of such integers. -/
def loosePair (w : List Byte) : Option (Int × Int) :=
  match splitOn charEquals w with
  | [a, b] =>
    match looseDec a, looseDec b with
    | some i, some us => some (i, us)
    | _, _ => none
  | _ => none

/-- The pairs at the head of a `setChannels` line, none if a number of one of them cannot be parsed (R189: such a line is dropped whole). A word without `=`
is no pair and begins trailing text. -/
def loosePairs : List (List Byte) → Option (List (Int × Int))
  | [] => some []
  | w :: ws =>
    if w.contains charEquals then
      match loosePair w, loosePairs ws with
      | some q, some qs => some (q :: qs)
      | _, _ => none
    else some []

/-- What a line says if every lexical point that the spec leaves open (91 N9: letter case, tabs, line ends, extra spaces, leading zeros, signs, trailing text)
is settled in its favour. -/
def looseCommand (now : Time) (line : List Byte) : Option Instr :=
  match looseWords line with
  | [] => none
  | kw :: args =>
    if kw = lowered wordSetChannel then
      match args with
      | a :: b :: _ =>
        match looseDec a, looseDec b with
        | some i, some us => some (.setChannel i us)
        | _, _ => none
      | _ => none
    else if kw = lowered wordSetChannels then
      match loosePairs args with
      | some (q :: qs) => some (.setChannels (q :: qs))
      | _ => none
    else if kw = lowered wordSendChannels then some (.sendChannels now)
    else if kw = lowered wordSetMode then
      match args with
      | m :: _ => (parseMode m).map .setModeText
      | [] => none
    else none

/-- The text of a mode word. -/
def modeWord : Mode → List Byte
  | .joystick => wordJoystick
  | .manual => wordManual

/-- The text of a pair. -/
def pairText (q : Int × Int) : List Byte := decDigits q.1.toNat ++ charEquals :: decDigits q.2.toNat

end Sys2Proof
end

