-- ==== Sys2Proof/Machine/FrameCodec.lean ====
section
/-! DEFINITION. The frame codec of 40_frame_codec.md: CRC8, FRAME_CHECK, FRAME_ENCODE. -/

namespace Sys2Proof

/-- One pass of the inner loop of R90. PRESUMED: the bit-level loop is the spec's, from general knowledge (93 G1), log 22; unsafe. -/
def crcBit (c : Byte) : Byte :=
  if c.getLsbD 7 then (c <<< 1) ^^^ Config.crcPoly else c <<< 1

/-- "repeat n times" of R90. -/
def crcBits : Nat → Byte → Byte
  | 0, c => c
  | n + 1, c => crcBits n (crcBit c)

/-- One byte entering the CRC register (R90). -/
def crcByte (c b : Byte) : Byte := crcBits 8 (c ^^^ b)

/-- `CRC8(bytes)` (R90). -/
def crc8 (bs : List Byte) : Byte := bs.foldl crcByte 0

/-- The verdicts of FRAME_CHECK (R92). -/
inductive Verdict where
  | waitHdr
  | resync
  | waitBody (len : Nat)
  | crcOk (len : Nat)
  | crcBad (len : Nat)
deriving DecidableEq, Repr

/-- `FRAME_CHECK` over the valid bytes of a buffer (R92): the tests in the order of the rule. -/
def frameCheck (buf : List Byte) : Verdict :=
  if buf.length < 2 then .waitHdr
  else
    let L := (byteAt buf 1).toNat
    if L < Config.lenMin ∨ Config.lenMax < L then .resync
    else if buf.length < L + 2 then .waitBody L
    else if crc8 ((buf.drop 2).take (L - 1)) = byteAt buf (L + 1) then .crcOk L
    else .crcBad L

/-- The payload `buf[3 .. L+1)` of a frame with length byte `L` (20_memory.md R41). -/
def framePayload (buf : List Byte) (L : Nat) : List Byte := (buf.drop 3).take (L - 2)

/-- The bytes of a frame (30_encoding.md R60): sync, length `N + 2`, type, payload, CRC8 over type and payload. -/
def frameBytes (addr ty : Byte) (p : List Byte) : List Byte :=
  [addr, BitVec.ofNat 8 (p.length + 2), ty] ++ p ++ [crc8 (ty :: p)]

/-- `FRAME_ENCODE(addr, type, payload)` (R93): no frame is produced unless `1 <= N <= 60`. -/
def frameEncode (addr ty : Byte) (p : List Byte) : Option (List Byte) :=
  if p.length < 1 ∨ Config.payloadMax < p.length then none else some (frameBytes addr ty p)

end Sys2Proof
end

