-- ==== Sys2Proof/WellFormed.lean ====
section
/-! DEFINITION. What a well-formed operation is: operands inside the ranges the rows of spec/opcode_table.json and their rules give. -/

namespace Sys2Proof

/-- A payload of a receivable frame: `1 <= N <= 60` (30_encoding.md R61). -/
def payloadOk (p : List Byte) : Bool := 1 ≤ p.length && p.length ≤ Config.payloadMax

/-- A payload of a typed row: `need <= N <= 60` (R71 and the rows' length constraints). -/
def typedPayloadOk (k : Kind) (p : List Byte) : Bool := k.need ≤ p.length && p.length ≤ Config.payloadMax

/-- An integer operand that a 32-bit two's-complement word holds (log 33). -/
def fitsInt32 (k : Int) : Bool := -2147483648 ≤ k && k ≤ 2147483647

/-- The operands of a control input (45_send_scheduler.md R171). -/
def Control.wf : Control → Bool
  | .chSet k _ => fitsInt32 k
  | .setMode _ => true
  | .joyAxis _ _ => true
  | .forceSend => true

/-- Well-formed operations. -/
def Instr.wf : Instr → Bool
  | .rc p _ => typedPayloadOk .rc p
  | .gps p => typedPayloadOk .gps p
  | .batt p => typedPayloadOk .batt p
  | .linkstat p => typedPayloadOk .linkstat p
  | .att p => typedPayloadOk .att p
  | .fmode p => typedPayloadOk .fmode p
  | .shortPayload ty p =>
    payloadOk p && (match kindOf Config.types ty with | some k => p.length < k.need | none => false)
  | .unknown ty p => payloadOk p && kindOf Config.types ty == none
  | .foreignAddr addr _ p => payloadOk p && addr != Config.addrFc
  | .txRc => true
  | .crc8 _ => true
  | .frameCheck buf len => len ≤ buf.length && buf.length ≤ Config.rxBufSize
  | .frameEncode _ _ _ => true
  | .code2usRaw code => fitsInt32 code
  | .code2us _ => true
  | .us2code _ => true
  | .pack _ => true
  | .unpack p => p.length == 22
  | .packChannels _ => true
  | .unpackChannels p => p.length == 22
  | .attDegrees => true
  | .rxb _ _ => true
  | .consume _ => true
  | .waitHdr => true
  | .resync => true
  | .waitBody => true
  | .crcOk _ => true
  | .crcBad => true
  | .tmo _ => true
  | .ldn _ => true
  | .step rx fin _ => rx.length ≤ Config.rxBatch && ((fin == .full) == (rx.length == Config.rxBatch))
  | .dispatch _ _ p _ => payloadOk p
  | .chGet k => fitsInt32 k
  | .chSet k _ => fitsInt32 k
  | .chSnapshot => true
  | .tick _ => true
  | .sendBuild => true
  | .sendGate => true
  | .sendEmit => true
  | .send _ => true
  | .forceSend _ => true
  | .schedIter inputs _ => inputs.all Control.wf
  | .setMode _ => true
  | .setIgnoreTel _ => true
  | .joyAxis _ _ => true
  | .stop => true
  | .setChannel i us => 0 ≤ i && 0 ≤ us
  | .setChannels pairs => !pairs.isEmpty && pairs.all (fun q => 0 ≤ q.1 && 0 ≤ q.2)
  | .sendChannels _ => true
  | .setModeText _ => true

end Sys2Proof
end

