-- ==== Sys2Proof/Decode.lean ====
section
/-! DEFINITION. From an invocation's bytes to an operation, and back. Wire rows by 30_encoding.md R60 to R72 and R79, command lines by R76. FUNC and OP
rows have no binary form in the spec (R78); their call record is the model's own (log 2): one byte, the row's place in spec/opcode_table.json counted
from 0, then the operands in the order of the call form, integers big-endian, a variable-length operand last. -/

namespace Sys2Proof

/-- Why bytes are no invocation. -/
inductive DecodeError where
  /-- A call record without its first byte. -/
  | emptyRecord
  /-- FRAME_CHECK does not answer CRC_OK for these bytes (R72: illegal length, incomplete, CRC failure). -/
  | badFrame (v : Verdict)
  /-- Bytes after the end of the frame. -/
  | trailingBytes
  /-- Not the header of the transmitted frame (R73). -/
  | badTxFrame
  /-- The first byte of a call record names no FUNC or OP row. -/
  | badRow (tag : Nat)
  /-- The operand bytes of a call record do not fit its row. -/
  | badOperands (tag : Nat)
  /-- A line that is none of the four command forms (46 R189). -/
  | invalidCommand
  /-- A line whose lexical form the spec leaves open (91 N9): it is either this operation or an invalid command (log 16). -/
  | openLexicalForm (i : Instr)
deriving DecidableEq, Repr

/-- The wire row that a frame selects, its length byte and CRC being right (R79): the address first, then the type, then the payload size. -/
def selectRow (addr ty : Byte) (p : List Byte) (now : Time) : Instr :=
  if addr ≠ Config.addrFc then .foreignAddr addr ty p
  else match kindOf Config.types ty with
    | none => .unknown ty p
    | some k =>
      if p.length < k.need then .shortPayload ty p
      else match k with
        | .rc => .rc p now
        | .gps => .gps p
        | .batt => .batt p
        | .linkstat => .linkstat p
        | .att => .att p
        | .fmode => .fmode p

/-- A received frame (R60 to R62): the bytes of exactly one candidate that FRAME_CHECK accepts. -/
def decodeFrame (now : Time) (bytes : List Byte) : Except DecodeError Instr :=
  match frameCheck bytes with
  | .crcOk L =>
    if bytes.length = L + 2 then .ok (selectRow (byteAt bytes 0) (byteAt bytes 2) (framePayload bytes L) now)
    else .error .trailingBytes
  | v => .error (.badFrame v)

/-- The header of the transmitted frame (R73). -/
def txHeader : List Byte := [Config.addrFc, 0x18, Config.typeRc]

/-- 32-bit operands to the end of a record. -/
def words32 : List Byte → Option (List (BitVec 32))
  | [] => some []
  | b3 :: b2 :: b1 :: b0 :: r =>
    match words32 r with
    | some ws => some (be32 b3 b2 b1 b0 :: ws)
    | none => none
  | _ => none

/-- Sixteen 32-bit operands. -/
def sixteen (bs : List Byte) : Option (Vector Chan 16) :=
  match words32 bs with
  | some ws => if h : ws.length = 16 then some ⟨ws.toArray, by simp [h]⟩ else none
  | none => none

/-- The `(b, t)` items of a STEP to the end of a record. -/
def rxItems : List Byte → Option (List (Byte × Time))
  | [] => some []
  | b :: t3 :: t2 :: t1 :: t0 :: r =>
    match rxItems r with
    | some items => some ((b, be32 t3 t2 t1 t0) :: items)
    | none => none
  | _ => none

/-- The terminator of a STEP. -/
def readEndOf (b : Byte) : Option ReadEnd :=
  if b = 0 then some .full else if b = 1 then some .nodata else if b = 2 then some .error else none

/-- A mode operand: the numbering of 10_state.md R25. -/
def modeOf (v : BitVec 32) : Option Mode :=
  if v = 0 then some .joystick else if v = 1 then some .manual else none

/-- One control input of a SCHED_ITER record: its kind and two 32-bit operands, unused ones zero. An axis above 255 is no axis number (log 33). -/
def controlOf (kind : Byte) (x y : BitVec 32) : Option Control :=
  if kind = 1 then some (.chSet x.toInt y)
  else if kind = 2 then (if y = 0 then (modeOf x).map .setMode else none)
  else if kind = 3 then
    (if x.toNat < 256 ∧ y.toNat < 65536 then some (.joyAxis (x.setWidth 8) (y.setWidth 16)) else none)
  else if kind = 4 then (if x = 0 ∧ y = 0 then some .forceSend else none)
  else none

/-- The control inputs of a SCHED_ITER to the end of a record, nine bytes each. -/
def controls : List Byte → Option (List Control)
  | [] => some []
  | c :: x3 :: x2 :: x1 :: x0 :: y3 :: y2 :: y1 :: y0 :: r =>
    match controlOf c (be32 x3 x2 x1 x0) (be32 y3 y2 y1 y0), controls r with
    | some i, some is => some (i :: is)
    | _, _ => none
  | _ => none

/-- The operands of a FUNC row. -/
def decodeFunc (tag : Nat) (ops : List Byte) : Option Instr :=
  match tag, ops with
  | 10, bs => some (.crc8 bs)
  | 11, l1 :: l0 :: buf => some (.frameCheck buf (be16 l1 l0).toNat)
  | 12, addr :: ty :: p => some (.frameEncode addr ty p)
  | 13, [c3, c2, c1, c0] => some (.code2usRaw (be32 c3 c2 c1 c0).toInt)
  | 14, [c1, c0] => if (be16 c1 c0).toNat < 2048 then some (.code2us ((be16 c1 c0).setWidth 11)) else none
  | 15, [u3, u2, u1, u0] => some (.us2code (be32 u3 u2 u1 u0))
  | 16, bs => (sixteen bs).map .pack
  | 17, p => some (.unpack p)
  | 18, bs => (sixteen bs).map .packChannels
  | 19, p => some (.unpackChannels p)
  | 20, [] => some .attDegrees
  | _, _ => none

/-- The operands of an OP row. -/
def decodeOp (tag : Nat) (ops : List Byte) : Option Instr :=
  match tag, ops with
  | 21, [b, t3, t2, t1, t0] => some (.rxb b (be32 t3 t2 t1 t0))
  | 22, [t3, t2, t1, t0] => some (.consume (be32 t3 t2 t1 t0))
  | 23, [] => some .waitHdr
  | 24, [] => some .resync
  | 25, [] => some .waitBody
  | 26, [t3, t2, t1, t0] => some (.crcOk (be32 t3 t2 t1 t0))
  | 27, [] => some .crcBad
  | 28, [t3, t2, t1, t0] => some (.tmo (be32 t3 t2 t1 t0))
  | 29, [t3, t2, t1, t0] => some (.ldn (be32 t3 t2 t1 t0))
  | 30, e :: t3 :: t2 :: t1 :: t0 :: r =>
    match readEndOf e, rxItems r with
    | some fin, some rx => some (.step rx fin (be32 t3 t2 t1 t0))
    | _, _ => none
  | 31, addr :: ty :: t3 :: t2 :: t1 :: t0 :: p => some (.dispatch addr ty p (be32 t3 t2 t1 t0))
  | 32, [k3, k2, k1, k0] => some (.chGet (be32 k3 k2 k1 k0).toInt)
  | 33, [k3, k2, k1, k0, u3, u2, u1, u0] => some (.chSet (be32 k3 k2 k1 k0).toInt (be32 u3 u2 u1 u0))
  | 34, [] => some .chSnapshot
  | 35, [t3, t2, t1, t0] => some (.tick (be32 t3 t2 t1 t0))
  | 36, [] => some .sendBuild
  | 37, [] => some .sendGate
  | 38, [] => some .sendEmit
  | 39, [t3, t2, t1, t0] => some (.send (be32 t3 t2 t1 t0))
  | 40, [t3, t2, t1, t0] => some (.forceSend (be32 t3 t2 t1 t0))
  | 41, t3 :: t2 :: t1 :: t0 :: r => (controls r).map fun is => .schedIter is (be32 t3 t2 t1 t0)
  | 42, [m] => (modeOf (m.setWidth 32)).map .setMode
  | 43, [v] => if v = 0 then some (.setIgnoreTel false) else if v = 1 then some (.setIgnoreTel true) else none
  | 44, [axis, a1, a0] => some (.joyAxis axis (be16 a1 a0))
  | 45, [] => some .stop
  | _, _ => none

/-- A call record (log 2). -/
def decodeCall : List Byte → Except DecodeError Instr
  | [] => .error .emptyRecord
  | tag :: ops =>
    if 10 ≤ tag.toNat ∧ tag.toNat ≤ 45 then
      match (if tag.toNat ≤ 20 then decodeFunc tag.toNat ops else decodeOp tag.toNat ops) with
      | some i => if i.wf then .ok i else .error (.badOperands tag.toNat)
      | none => .error (.badOperands tag.toNat)
    else .error (.badRow tag.toNat)

/-- A command line (R76, R189). A line that would be rejected however the open lexical points are settled (a `setChannel` out of range) is an invalid
command. -/
def decodeLine (now : Time) (line : List Byte) : Except DecodeError Instr :=
  match parseCommand now line with
  | some i => .ok i
  | none =>
    match looseCommand now line with
    | none => .error .invalidCommand
    | some (.setChannel i us) => if inCommandRange i us then .error (.openLexicalForm (.setChannel i us)) else .error .invalidCommand
    | some i => .error (.openLexicalForm i)

/-- The decoder: total on any bytes, rejecting by name. -/
def decode : Encoded → Except DecodeError Instr
  | .rxFrame now bytes => decodeFrame now bytes
  | .txFrame bytes => if bytes = txHeader then .ok .txRc else .error .badTxFrame
  | .line now bytes => decodeLine now bytes
  | .call bytes => decodeCall bytes

/-! The encoder. -/

/-- The terminator byte of a STEP record. -/
def readEndByte : ReadEnd → Byte
  | .full => 0
  | .nodata => 1
  | .error => 2

/-- The mode number of R25. -/
def modeWord32 : Mode → BitVec 32
  | .joystick => 0
  | .manual => 1

/-- Nine bytes of one control input. -/
def controlBytes : Control → List Byte
  | .chSet k us => 1 :: (bytes32 (BitVec.ofInt 32 k) ++ bytes32 us)
  | .setMode m => 2 :: (bytes32 (modeWord32 m) ++ bytes32 0)
  | .joyAxis axis a => 3 :: (bytes32 (axis.setWidth 32) ++ bytes32 (a.setWidth 32))
  | .forceSend => 4 :: (bytes32 0 ++ bytes32 0)

/-- Sixteen 32-bit operands. -/
def vectorBytes (v : Vector Chan 16) : List Byte := v.toList.flatMap bytes32

/-- A frame from the flight-controller address. -/
def fcFrame (ty : Byte) (p : List Byte) : List Byte := frameBytes Config.addrFc ty p

/-- The invocation of an operation. Where a row's encoding needs no clock value, the one beside it is 0. -/
def encode : Instr → Encoded
  | .rc p now => .rxFrame now (fcFrame Config.typeRc p)
  | .gps p => .rxFrame 0 (fcFrame Config.types.gps p)
  | .batt p => .rxFrame 0 (fcFrame Config.types.batt p)
  | .linkstat p => .rxFrame 0 (fcFrame Config.types.linkstat p)
  | .att p => .rxFrame 0 (fcFrame Config.types.att p)
  | .fmode p => .rxFrame 0 (fcFrame Config.types.fmode p)
  | .shortPayload ty p => .rxFrame 0 (fcFrame ty p)
  | .unknown ty p => .rxFrame 0 (fcFrame ty p)
  | .foreignAddr addr ty p => .rxFrame 0 (frameBytes addr ty p)
  | .txRc => .txFrame txHeader
  | .crc8 bs => .call (10 :: bs)
  | .frameCheck buf len => .call (11 :: (bytes16 (BitVec.ofNat 16 len) ++ buf))
  | .frameEncode addr ty p => .call (12 :: addr :: ty :: p)
  | .code2usRaw code => .call (13 :: bytes32 (BitVec.ofInt 32 code))
  | .code2us code => .call (14 :: bytes16 (code.setWidth 16))
  | .us2code us => .call (15 :: bytes32 us)
  | .pack codes => .call (16 :: vectorBytes codes)
  | .unpack p => .call (17 :: p)
  | .packChannels us => .call (18 :: vectorBytes us)
  | .unpackChannels p => .call (19 :: p)
  | .attDegrees => .call [20]
  | .rxb b t => .call (21 :: b :: bytes32 t)
  | .consume now => .call (22 :: bytes32 now)
  | .waitHdr => .call [23]
  | .resync => .call [24]
  | .waitBody => .call [25]
  | .crcOk now => .call (26 :: bytes32 now)
  | .crcBad => .call [27]
  | .tmo now => .call (28 :: bytes32 now)
  | .ldn now => .call (29 :: bytes32 now)
  | .step rx fin now => .call (30 :: readEndByte fin :: (bytes32 now ++ rx.flatMap fun q => q.1 :: bytes32 q.2))
  | .dispatch addr ty p now => .call (31 :: addr :: ty :: (bytes32 now ++ p))
  | .chGet k => .call (32 :: bytes32 (BitVec.ofInt 32 k))
  | .chSet k us => .call (33 :: (bytes32 (BitVec.ofInt 32 k) ++ bytes32 us))
  | .chSnapshot => .call [34]
  | .tick now => .call (35 :: bytes32 now)
  | .sendBuild => .call [36]
  | .sendGate => .call [37]
  | .sendEmit => .call [38]
  | .send now => .call (39 :: bytes32 now)
  | .forceSend now => .call (40 :: bytes32 now)
  | .schedIter inputs now => .call (41 :: (bytes32 now ++ inputs.flatMap controlBytes))
  | .setMode m => .call [42, (modeWord32 m).setWidth 8]
  | .setIgnoreTel v => .call [43, if v then 1 else 0]
  | .joyAxis axis a => .call (44 :: axis :: bytes16 a)
  | .stop => .call [45]
  | .setChannel i us => .line 0 (joinWith charSpace [wordSetChannel, decDigits i.toNat, decDigits us.toNat])
  | .setChannels pairs => .line 0 (joinWith charSpace (wordSetChannels :: pairs.map pairText))
  | .sendChannels now => .line now wordSendChannels
  | .setModeText m => .line 0 (joinWith charSpace [wordSetMode, modeWord m])

/-! The host's table words. -/

/-- The smallest length byte that the row of a type admits (R71, `fields.length` of the rows): used only for a table word that leaves the length open. -/
def leastLength (ty : Byte) : Nat :=
  match kindOf Config.types ty with
  | some k => k.need + 2
  | none => Config.lenMin

/-- The invocation a table word stands for (R79: sync in bits 23..16, length in bits 15..8, type in bits 7..0), its payload all zeros. The two bytes of a
frame that follow from the others are laid out as R60 derives them: the CRC always, the length where the word gives none (its bits are outside every
row's mask and 0 is no legal length). DESIGN CHOICE, log 26. -/
def tableRecord (nbits w : Nat) : Encoded :=
  let addr := BitVec.ofNat 8 (w / 65536)
  let ty := BitVec.ofNat 8 w
  let given := w / 256 % 256
  let L := if given = 0 then leastLength ty else given
  let p : List Byte := List.replicate (L - 2) 0
  if nbits = 24 then .rxFrame 0 ([addr, BitVec.ofNat 8 L, ty] ++ p ++ [crc8 (ty :: p)]) else .rxFrame 0 []

/-- What the decoder reads from an instruction whose table bits are `w`. -/
def decodeTableWord (nbits w : Nat) : Option Instr :=
  match decode (tableRecord nbits w) with
  | .ok i => some i
  | .error _ => none

end Sys2Proof
end

