-- ==== Sys2Proof/Machine/ChannelCodec.lean ====
section
/-! DEFINITION. The RC channel codec of 41_channel_codec.md, the attitude function of 43_dispatch.md R141 and the joystick map of 46_control_inputs.md
R186: integers are unbounded, `/` on them is floor division by a positive number (00_scope.md R8). -/

namespace Sys2Proof

/-- `CODE2US_RAW(code)` (R100). -/
def code2usRaw (code : Int) : Int :=
  (2 * (Config.usMin * Config.codeSpan + (code - Config.codeMin) * Config.usSpan) + Config.codeSpan) / (2 * Config.codeSpan)

/-- `CODE2US(code)` (R101). -/
def code2us (code : Int) : Int := clamp (code2usRaw code) Config.usMin Config.usMax

/-- The first estimate of `US2CODE` before the fidelity adjustment: clamp, round, clamp (R103). -/
def us2codeFirst (u : Int) : Int :=
  clamp ((2 * (Config.codeMin * Config.usSpan + (u - Config.usMin) * Config.codeSpan) + Config.usSpan) / (2 * Config.usSpan))
    Config.codeMin Config.codeMax

/-- `US2CODE(us)` (R103), the fidelity adjustment included. -/
def us2code (us : Int) : Int :=
  let u := clamp us Config.usMin Config.usMax
  let code := us2codeFirst u
  let u2 := code2usRaw code
  if u2 ≠ u ∧ code ≠ Config.codeMin ∧ code ≠ Config.codeMax then
    (if u2 < u then code + 1 else code - 1)
  else code

/-- The bit stream of codes as one number, each code modulo `2 ^ CH_BITS` and channel 0 least significant: the `S` of R104. -/
def streamOfCodes : List Int → Nat
  | [] => 0
  | c :: cs => (c % 2 ^ Config.chBits).toNat + 2 ^ Config.chBits * streamOfCodes cs

/-- The bit stream of payload bytes as one number, byte 0 least significant: the `S` of R105. -/
def streamOfBytes : List Byte → Nat
  | [] => 0
  | b :: bs => b.toNat + 256 * streamOfBytes bs

/-- `PACK(code[0..15])` (R104): 22 bytes. -/
def pack (codes : List Int) : List Byte :=
  (List.range 22).map fun k => BitVec.ofNat 8 (streamOfCodes codes / 2 ^ (8 * k))

/-- `UNPACK(p[0..21])` (R105): 16 codes. -/
def unpack (p : List Byte) : List Int :=
  (List.range Config.nCh).map fun i => ((streamOfBytes p / 2 ^ (Config.chBits * i) % 2 ^ Config.chBits : Nat) : Int)

/-- `PACK_CHANNELS(us[0..15])` (R106). -/
def packChannels (us : Vector Chan 16) : List Byte :=
  pack (us.toList.map fun u => us2code u.toInt)

/-- `UNPACK_CHANNELS(p[0..21])` (R107), as channel-store elements. -/
def unpackChannels (p : List Byte) : Vector Chan 16 :=
  ⟨((unpack p).map fun c => BitVec.ofInt 32 (code2us c)).toArray, by simp [unpack]⟩

/-- The attitude in degrees (43_dispatch.md R141), exact rationals. -/
structure Degrees where
  pitch : Rat
  roll : Rat
  yaw : Rat
deriving DecidableEq, Repr

/-- `ATT_DEGREES` (R141): `raw / 175`, and `raw / 175 + 360` = `(raw + 360 * 175) / 175` for a negative raw yaw. -/
def attDegrees (pitch roll yaw : BitVec 16) : Degrees where
  pitch := mkRat pitch.toInt Config.attDiv
  roll := mkRat roll.toInt Config.attDiv
  yaw := if 0 ≤ yaw.toInt then mkRat yaw.toInt Config.attDiv else mkRat (yaw.toInt + 360 * Config.attDiv) Config.attDiv

/-- `JOY_MAP(v)` (46_control_inputs.md R186). -/
def joyMap (v : Int) : Int :=
  clamp (Config.usMid + (v * 1000 + 32768) / 65536) Config.usMin Config.usMax

end Sys2Proof
end

