-- ==== Sys2Proof/Machine/State.lean ====
section
/-! DEFINITION. The architectural state of 10_state.md, the outputs and inputs of R27 and R28 as plain data, the reasons a step can stop, and reset. -/

namespace Sys2Proof.Machine

/-- The receive buffer `rx_buf` (R10): its valid bytes in index order, `buf[0]` (the oldest) first. What stands at or above `rx_len` is not state
(R10, 93 U16), so nothing is listed for it and equal buffers are equal lists. -/
abbrev Memory := List Byte

/-- The canonical form: at most `RX_BUF_SIZE` bytes (R11). -/
def Memory.wf (m : Memory) : Bool := m.length ≤ Config.rxBufSize

/-- Byte `buf[a]`; no value outside the valid part (R9, R10). -/
def Memory.read (m : Memory) (a : Nat) : Option Byte := m[a]?

/-- The GPS group (R16) and its valid bit (R21). -/
structure Gps where
  lat : BitVec 32
  lon : BitVec 32
  speed : BitVec 16
  heading : BitVec 16
  alt : BitVec 16
  sats : Byte
  valid : Bool
deriving DecidableEq, Repr

/-- The battery group (R17) and its valid bit (R21). -/
structure Battery where
  voltage : BitVec 16
  current : BitVec 16
  capacity : BitVec 24
  remaining : Byte
  valid : Bool
deriving DecidableEq, Repr

/-- The raw attitude group (R18) and its valid bit (R21). -/
structure Attitude where
  pitchRaw : BitVec 16
  rollRaw : BitVec 16
  yawRaw : BitVec 16
  valid : Bool
deriving DecidableEq, Repr

/-- The link-statistics group (R19) and its valid bit (R21). -/
structure LinkStat where
  bytes : Vector Byte 10
  valid : Bool
deriving DecidableEq, Repr

/-- The flight-mode group (R20) and its valid bit (R21): `fm_len` is the length of `bytes`, since only `fm_bytes[0..fm_len)` is meaningful. -/
structure FlightMode where
  bytes : List Byte
  valid : Bool
deriving DecidableEq, Repr

/-- `tx_inflight` (R23). -/
inductive Inflight where
  | none
  | built (frame : List Byte)
  | passed (frame : List Byte)
deriving DecidableEq, Repr

/-- Entries of the event history: the three strobes (60_exceptions.md R205), then the trace labels (R200, R201). -/
inductive Event where
  | onLinkUp
  | onLinkDown
  | onChannels
  | frameOk
  | lenRange
  | crcMismatch
  | truncated
  | rxOverflow
  | transportReadErr
  | transportWriteErr
  | cmdReject
  | txGated
  | foreignAddr
  | unknownType
  | shortPayload
deriving DecidableEq, Repr

/-- The cause number of a label in the table of R200; strobes and `FRAME_OK` have none. -/
def Event.cause : Event → Option Nat
  | .lenRange => some 1
  | .crcMismatch => some 2
  | .truncated => some 3
  | .rxOverflow => some 4
  | .transportReadErr => some 5
  | .transportWriteErr => some 6
  | .cmdReject => some 7
  | .txGated => some 8
  | .foreignAddr => some 9
  | .unknownType => some 10
  | .shortPayload => some 11
  | .onLinkUp | .onLinkDown | .onChannels | .frameOk => none

/-- Whether an entry is an output of the block: "Only the three callbacks are real outputs" (R201). -/
def Event.strobe : Event → Bool
  | .onLinkUp | .onLinkDown | .onChannels => true
  | _ => false

/-- What an emit left on the line (20_memory.md R45): a whole accepted frame, or an unknown part of a failed one. -/
inductive TxItem where
  | frame (bytes : List Byte)
  | partialFrame (bytes : List Byte)
deriving DecidableEq, Repr

/-- The wire's answer to an emit (R45). -/
inductive EmitAnswer where
  | accepted
  | failed
deriving DecidableEq, Repr

/-- The atomic copy of the telemetry record (20_memory.md R51): all groups, `link_up`, and the timestamps. -/
structure Record where
  gps : Gps
  bat : Battery
  att : Attitude
  linkstat : LinkStat
  fm : FlightMode
  linkUp : Bool
  lastReceiveMs : Time
  lastChannelsMs : Time
  lastTxMs : Time
deriving DecidableEq, Repr

/-- The five telemetry groups (10_state.md R16 to R20). -/
inductive Group where
  | gps
  | bat
  | att
  | linkstat
  | fm
deriving DecidableEq, Repr

/-- What an operation that answers a value returned to its caller. The field is the model's own (log 4). -/
inductive Result where
  | none
  | int (v : Int)
  | byte (b : Byte)
  | bytes (bs : List Byte)
  | codes (cs : List Int)
  | channels (us : Vector Chan 16)
  | verdict (v : Verdict)
  /-- FRAME_ENCODE refused its payload: "no frame is produced" (40 R93). -/
  | noFrame
  | degrees (d : Degrees)
  | word (w : BitVec 32)
  /-- Registers with the words they answered. -/
  | words (ws : List (Nat × BitVec 32))
  | record (r : Record)
deriving DecidableEq, Repr

/-- The atomic steps that composite operations consist of (20_memory.md R52). -/
inductive Task where
  | rxb (b : Byte) (t : Time)
  | readErr
  /-- One pass of the CONSUME loop. -/
  | consume (now : Time)
  | tmoTest (now : Time)
  | tmoShift (now : Time)
  | ldn (now : Time)
  /-- One control input applied. -/
  | control (c : Control) (now : Time)
  /-- The TICK test with its write of `last_tx_ms`. -/
  | tick (now : Time)
  /-- SEND's write of `last_tx_ms`. -/
  | stamp (now : Time)
  | build
  | gate
  | emit
deriving DecidableEq, Repr

/-- What the environment schedules next (R52, R54; log 1 and log 17). -/
inductive Entry where
  /-- An agent runs an operation, with no step of another agent inside it. -/
  | invoke (e : Encoded)
  /-- An agent begins an operation, whose atomic steps it then takes one by one. -/
  | start (e : Encoded)
  /-- An agent takes its next atomic step. -/
  | resume (a : Engine)
  /-- The host reads one register by its number (R33). -/
  | regRead (n : Nat)
  /-- The host reads the registers of one telemetry group word by word, which gives one instant of the group (20_memory.md R51, D34; log 40). -/
  | groupRead (g : Group)
  /-- The host writes a register by its number (R33), at clock value `now`. -/
  | regWrite (n : Nat) (v : BitVec 32) (now : Time)
  /-- The host copies the telemetry record (20_memory.md R51). -/
  | recordCopy
deriving DecidableEq, Repr

/-- The state of the block. -/
structure State where
  /-- `rx_buf` and `rx_len` (R10, R11). -/
  rxBuf : Memory
  /-- `last_receive_ms` (R12). -/
  lastReceiveMs : Time
  /-- `last_channels_ms` (R13). -/
  lastChannelsMs : Time
  /-- `link_up` (R14). -/
  linkUp : Bool
  /-- `ch[0..15]` (R15). -/
  ch : Vector Chan 16
  /-- R16. -/
  gps : Gps
  /-- R17. -/
  bat : Battery
  /-- R18. -/
  att : Attitude
  /-- R19. -/
  linkstat : LinkStat
  /-- R20. -/
  fm : FlightMode
  /-- `last_tx_ms` (R22). -/
  lastTxMs : Time
  /-- `tx_inflight` (R23). -/
  txInflight : Inflight
  /-- `ignore_telemetry` (R24). -/
  ignoreTel : Bool
  /-- `mode` (R25). -/
  mode : Mode
  /-- `stopped` (R26). -/
  stopped : Bool
  /-- The event history, oldest first (R27, 60_exceptions.md R205; log 5). -/
  events : List Event
  /-- The transmitted stream, oldest first (R27, 20_memory.md R45). -/
  txLine : List TxItem
  /-- Answers the wire has ready for the emits to come (R28; log 9). -/
  emitAnswers : List EmitAnswer
  /-- What the environment schedules, next first (log 1). -/
  agenda : List Entry
  /-- Atomic steps of the RX engine's operation in progress (20_memory.md R52; log 17). -/
  rxPlan : List Task
  /-- Atomic steps of the TX scheduler's operation in progress (R52; log 17). -/
  txPlan : List Task
  /-- What the last operation that answers a value returned (log 4). -/
  result : Result
  /-- How many free values the run has used (log 7). -/
  freeCount : Nat
deriving DecidableEq, Repr

/-- `rx_len` (R11). -/
def State.rxLen (s : State) : Nat := s.rxBuf.length

/-- `fm_len` (R20). -/
def State.fmLen (s : State) : Nat := s.fm.bytes.length

/-- Faults: an access to a register number. No operation of the opcode table faults (60_exceptions.md R200, R212). -/
inductive Fault where
  /-- The host names a register number that R33 does not list. Safe: the model stops where the spec gives no effect. -/
  | noSuchRegister (n : Nat)
  /-- The host writes a register to which R33 gives no write access. Safe, as above. -/
  | readOnlyRegister (n : Nat)
deriving DecidableEq, Repr

/-- Refusals. -/
inductive Refusal where
  /-- An instruction without a meaning, raised by `exec` only. Safe. No arm uses it. -/
  | notModelled (mnemonic : String)
  /-- The scheduled bytes are no invocation; raised by the fetch. Safe. -/
  | undecodable (e : DecodeError)
  /-- A case row of CONSUME is invoked while FRAME_CHECK selects another case; raised by the five case rows. Safe (log 13). -/
  | caseNotSelected
  /-- SEND_GATE without a built frame, or SEND_EMIT without a passed one; raised by these two. Safe (log 14). -/
  | noFrameInFlight
deriving DecidableEq, Repr

/-- Every answer of a step or a meaning. -/
abbrev Answer := Host.Outcome State Fault Refusal

/-- The reset state of 70_reset_and_hazards.md R230 for given values of the two parameters of start-up, `MODE_RESET` and `IGNORE_TEL_RESET`. -/
def State.resetWith (mode : Mode) (ignoreTel : Bool) : State where
  rxBuf := []
  lastReceiveMs := 0
  lastChannelsMs := 0
  linkUp := false
  ch := Vector.replicate 16 Config.chReset
  gps := ⟨0, 0, 0, 0, 0, 0, false⟩
  bat := ⟨0, 0, 0, 0, false⟩
  att := ⟨0, 0, 0, false⟩
  linkstat := ⟨Vector.replicate 10 0, false⟩
  fm := ⟨[], false⟩
  lastTxMs := 0
  txInflight := .none
  ignoreTel := ignoreTel
  mode := mode
  stopped := false
  events := []
  txLine := []
  emitAnswers := []
  agenda := []
  rxPlan := []
  txPlan := []
  result := .none
  freeCount := 0

/-- The state after reset (R230). The spec leaves `MODE_RESET` open (R25, D23). DESIGN CHOICE: joystick, log 6; unsafe. -/
def State.reset : State := State.resetWith .joystick Config.ignoreTelReset

end Sys2Proof.Machine
end

