-- ==== Sys2Proof/Machine/Flags.lean ====
section
/-! DEFINITION. The comparators of 60_exceptions.md R215 and the status words of 10_state.md R33. No operation of the block computes a condition code
(R32). -/

namespace Sys2Proof.Machine

/-- `elapsed(now, t) = (now - t) mod 2^32` (00_scope.md R8). -/
def elapsed (now t : Time) : Nat := (now - t).toNat

/-- The packet timeout's condition (42_link_engine.md R123): bytes remain and more than 100 ms since the last byte. -/
def packetTimedOut (s : State) (now : Time) : Bool :=
  0 < s.rxLen && Config.pktTimeoutMs < elapsed now s.lastReceiveMs

/-- The failsafe's condition (R125): link up and more than 120 000 ms since the last byte. -/
def linkTimedOut (s : State) (now : Time) : Bool :=
  s.linkUp && Config.linkDownMs < elapsed now s.lastReceiveMs

/-- The send period's condition (45_send_scheduler.md R165): at least 10 ms since the last transmit. -/
def sendDue (s : State) (now : Time) : Bool := Config.sendPeriodMs ≤ elapsed now s.lastTxMs

/-- The link gate (R167). -/
def gateOpen (s : State) : Bool := s.linkUp || s.ignoreTel

/-- One bit of a status word. -/
def bitAt (b : Bool) (n : Nat) : BitVec 32 := if b then 1#32 <<< n else 0#32

/-- Register `STATUS` (R33). -/
def statusWord (s : State) : BitVec 32 :=
  bitAt s.linkUp 0 ||| bitAt s.gps.valid 1 ||| bitAt s.bat.valid 2 ||| bitAt s.att.valid 3 ||| bitAt s.linkstat.valid 4 |||
  bitAt s.fm.valid 5 ||| bitAt (s.txInflight != .none) 6 ||| bitAt s.stopped 7 ||| ((BitVec.ofNat 7 s.rxLen).setWidth 32 <<< 8)

/-- Register `CTRL` as read (R33). -/
def ctrlWord (s : State) : BitVec 32 := bitAt s.ignoreTel 0 ||| bitAt (s.mode == .manual) 1

end Sys2Proof.Machine
end

