-- ==== Sys2Proof/Machine/Ops.lean ====
section
/-! DEFINITION. The shared operations over the state. No event traps (60_exceptions.md R212), so taking an exception and returning from one do not exist
here: an event is an entry of the history (`raise`, R205) and the detecting operation goes on. -/

namespace Sys2Proof.Machine.Ops

/-! Events, results, free values. -/

/-- `raise <event>` (00_scope.md R9, 60_exceptions.md R205): an entry at the end of the history. -/
def raise (e : Event) (s : State) : State := { s with events := s.events ++ [e] }

/-- The operation returns a value to its caller (log 4). -/
def answer (r : Result) (s : State) : State := { s with result := r }

/-- One more free value has been used. -/
def countFree (s : State) : State := { s with freeCount := s.freeCount + 1 }

/-- An operation of an agent: "When 1 no agent has a step" (10_state.md R26, 46 R188), so it has no effect once `stopped` is set (log 11). -/
def whenRunning (s s' : State) : State := if s.stopped then s else s'

/-- A step that a stopped block may or may not still take (46 R188: the frame in flight "may or may not be emitted"; log 8). -/
def perhaps (f : State → State) (s : State) : State :=
  if Config.freeBit s.freeCount then f (countFree s) else countFree s

/-! The receive buffer. -/

/-- `shift(n)` (20_memory.md R42): the first `n` bytes leave, all of them where `n` exceeds `rx_len`. -/
def shift (n : Nat) (s : State) : State := { s with rxBuf := s.rxBuf.drop n }

/-- `MemWrite(rx_len, 1, b)` with `rx_len` growing by one (00_scope.md R9, 42 R116). -/
def append (b : Byte) (s : State) : State := { s with rxBuf := s.rxBuf ++ [b] }

/-- `RXB(b, t)` (42_link_engine.md R116). -/
def rxb (b : Byte) (t : Time) (s : State) : State :=
  let s := { s with lastReceiveMs := t }
  if s.rxLen = Config.rxBufSize then raise .rxOverflow { s with rxBuf := [] } else append b s

/-! What each frame type writes (43_dispatch.md). -/

/-- The accepted RC-channels frame (R136): store, link strobe on the rising edge, link bit, time stamp, channels strobe. -/
def acceptRc (p : List Byte) (now : Time) (s : State) : State :=
  let s := { s with ch := unpackChannels (p.take 22) }
  let s := if s.linkUp then s else raise .onLinkUp s
  raise .onChannels { s with linkUp := true, lastChannelsMs := now }

/-- The GPS group of a payload (30 R66). -/
def gpsOf (p : List Byte) : Gps where
  lat := be32 (byteAt p 0) (byteAt p 1) (byteAt p 2) (byteAt p 3)
  lon := be32 (byteAt p 4) (byteAt p 5) (byteAt p 6) (byteAt p 7)
  speed := be16 (byteAt p 8) (byteAt p 9)
  heading := be16 (byteAt p 10) (byteAt p 11)
  alt := be16 (byteAt p 12) (byteAt p 13)
  sats := byteAt p 14
  valid := true

/-- The battery group of a payload (30 R67). -/
def batteryOf (p : List Byte) : Battery where
  voltage := be16 (byteAt p 0) (byteAt p 1)
  current := be16 (byteAt p 2) (byteAt p 3)
  capacity := be24 (byteAt p 4) (byteAt p 5) (byteAt p 6)
  remaining := byteAt p 7
  valid := true

/-- The attitude group of a payload (30 R68): pitch, roll, yaw in wire order. -/
def attitudeOf (p : List Byte) : Attitude where
  pitchRaw := be16 (byteAt p 0) (byteAt p 1)
  rollRaw := be16 (byteAt p 2) (byteAt p 3)
  yawRaw := be16 (byteAt p 4) (byteAt p 5)
  valid := true

/-- The link-statistics group of a payload (30 R69). -/
def linkStatOf (p : List Byte) : LinkStat where
  bytes := #v[byteAt p 0, byteAt p 1, byteAt p 2, byteAt p 3, byteAt p 4, byteAt p 5, byteAt p 6, byteAt p 7, byteAt p 8, byteAt p 9]
  valid := true

/-- A frame of a known type (R136 to R142): dropped with the label SHORT_PAYLOAD if its payload is shorter than the layout (R144), else it writes its
group. Bytes past the layout are ignored; flight mode takes them all (R71). -/
def typedFrame (k : Kind) (p : List Byte) (now : Time) (s : State) : State :=
  if p.length < k.need then raise .shortPayload s
  else match k with
    | .rc => acceptRc p now s
    | .gps => { s with gps := gpsOf p }
    | .batt => { s with bat := batteryOf p }
    | .linkstat => { s with linkstat := linkStatOf p }
    | .att => { s with att := attitudeOf p }
    | .fmode => { s with fm := ⟨p, true⟩ }

/-- DISPATCH (43_dispatch.md R135) for any choice of the five type codes (92 D10): the address filter, then the type switch. -/
def dispatchBy (m : Config.TypeMap) (addr ty : Byte) (p : List Byte) (now : Time) (s : State) : State :=
  if addr ≠ Config.addrFc then raise .foreignAddr s
  else match kindOf m ty with
    | some k => typedFrame k p now s
    | none => raise .unknownType s

/-- DISPATCH with this hardware's type codes (R135). -/
def dispatch (addr ty : Byte) (p : List Byte) (now : Time) (s : State) : State := dispatchBy Config.types addr ty p now s

/-! The consume loop and the timers (42_link_engine.md). -/

/-- RESYNC (R119): one byte dropped. -/
def resync (s : State) : State := shift 1 (raise .lenRange s)

/-- CRC_OK (R121): dispatch while the frame is in the buffer, then `shift(L + 2)`. -/
def crcOk (L : Nat) (now : Time) (s : State) : State :=
  shift (L + 2) (dispatch (byteAt s.rxBuf 0) (byteAt s.rxBuf 2) (framePayload s.rxBuf L) now (raise .frameOk s))

/-- CRC_BAD (R122): the bad frame dropped whole. -/
def crcBad (L : Nat) (s : State) : State := shift (L + 2) (raise .crcMismatch s)

/-- One pass of the CONSUME loop (R117) and whether the loop continues. -/
def consumePass (now : Time) (s : State) : State × Bool :=
  match frameCheck s.rxBuf with
  | .waitHdr => (s, false)
  | .resync => (resync s, true)
  | .waitBody _ => (s, false)
  | .crcOk L => (crcOk L now s, true)
  | .crcBad L => (crcBad L s, true)

/-- At most so many passes of the loop. -/
def consumeLoop : Nat → Time → State → State
  | 0, _, s => s
  | n + 1, now, s =>
    match consumePass now s with
    | (s', true) => consumeLoop n now s'
    | (s', false) => s'

/-- `CONSUME(now)` (R117). Every pass that continues removes a byte, so `rx_len + 1` passes reach the end of the loop. -/
def consume (now : Time) (s : State) : State := consumeLoop (s.rxLen + 1) now s

/-- At most so many rounds of the flush `shift(1); CONSUME(now)` (R123). -/
def flushLoop : Nat → Time → State → State
  | 0, _, s => s
  | n + 1, now, s => if 0 < s.rxLen then flushLoop n now (consume now (shift 1 s)) else s

/-- `TMO(now)` (R123). Every round removes a byte, so `rx_len` rounds empty the buffer. -/
def tmo (now : Time) (s : State) : State :=
  if packetTimedOut s now then flushLoop s.rxLen now (raise .truncated s) else s

/-- `LDN(now)` (R125): the strobe, then the bit. -/
def ldn (now : Time) (s : State) : State :=
  if linkTimedOut s now then { raise .onLinkDown s with linkUp := false } else s

/-- The read phase of STEP (R126): the bytes, each with its own time, then the label of a read error (R128). -/
def readPhase (rx : List (Byte × Time)) (fin : ReadEnd) (s : State) : State :=
  let s := rx.foldl (fun s q => rxb q.1 q.2 s) s
  if fin = .error then raise .transportReadErr s else s

/-- `STEP(rx, end, now)` (R126). -/
def step (rx : List (Byte × Time)) (fin : ReadEnd) (now : Time) (s : State) : State :=
  if s.stopped then s else ldn now (tmo now (consume now (readPhase rx fin s)))

/-! The channel store (44_channel_store.md). -/

/-- `CH_GET(k)` (R155). -/
def chGet (k : Int) (s : State) : Int :=
  match channelIndex k with
  | some i => (s.ch[i]).toInt
  | none => Config.usMid

/-- `CH_SET(k, us)` (R156): verbatim, and nothing for an index out of range. -/
def chSet (k : Int) (us : Chan) (s : State) : State :=
  match channelIndex k with
  | some i => { s with ch := s.ch.set i us }
  | none => s

/-- `CH_SNAPSHOT()` (R157). -/
def chSnapshot (s : State) : Vector Chan 16 := s.ch

/-! The send scheduler (45_send_scheduler.md). -/

/-- The frame made from a snapshot (R166, 30 R73). -/
def rcFrame (us : Vector Chan 16) : List Byte := frameBytes Config.addrFc Config.typeRc (packChannels us)

/-- SEND's write of `last_tx_ms` (R170). -/
def stamp (now : Time) (s : State) : State := { s with lastTxMs := now }

/-- `SEND_BUILD` (R166). -/
def sendBuild (s : State) : State := { s with txInflight := .built (rcFrame (chSnapshot s)) }

/-- `SEND_GATE` (R167) for a built frame; without one there is nothing to pass or drop. -/
def sendGate (s : State) : State :=
  match s.txInflight with
  | .built f => if gateOpen s then { s with txInflight := .passed f } else raise .txGated { s with txInflight := .none }
  | _ => s

/-- The wire's answer to the next emit (20_memory.md R45): the next one the environment has ready, or a free one (log 9). -/
def nextAnswer (s : State) : EmitAnswer × State :=
  match s.emitAnswers with
  | a :: rest => (a, { s with emitAnswers := rest })
  | [] => (if Config.freeAccept s.freeCount then .accepted else .failed, countFree s)

/-- What a failed emit left on the line: some proper part from the front of the frame (R45, 93 U5; log 7). -/
def keptPart (f : List Byte) (n : Nat) : List Byte := f.take (Config.freeKept n % f.length)

/-- `SEND_EMIT` (R168) for a passed frame: `emit` (R169), the frame leaves `tx_inflight`, and no retry. -/
def sendEmit (s : State) : State :=
  match s.txInflight with
  | .passed f =>
    match nextAnswer s with
    | (.accepted, s) => { s with txInflight := .none, txLine := s.txLine ++ [.frame f] }
    | (.failed, s) =>
      raise .transportWriteErr
        (countFree { s with txInflight := .none, txLine := s.txLine ++ [.partialFrame (keptPart f s.freeCount)] })
  | _ => s

/-- `SEND(now)` (R170): the emit only if the gate passed the frame. -/
def send (now : Time) (s : State) : State := sendEmit (sendGate (sendBuild (stamp now s)))

/-- `TICK(now)` (R165). -/
def tick (now : Time) (s : State) : State := if sendDue s now then send now s else s

/-! Control inputs (46_control_inputs.md). -/

/-- `SET_MODE(m)` (R184). -/
def setMode (m : Mode) (s : State) : State := { s with mode := m }

/-- `SET_IGNORE_TEL(v)` (R185). -/
def setIgnoreTel (v : Bool) (s : State) : State := { s with ignoreTel := v }

/-- The axis assignment of R186: channel and the value that `JOY_MAP` is applied to. -/
def joyTarget (axis : Byte) (a : BitVec 16) : Option (Int × Int) :=
  match axis.toNat with
  | 2 => some (1, a.toInt)
  | 3 => some (2, -a.toInt)
  | 1 => some (3, -a.toInt)
  | 0 => some (4, a.toInt)
  | _ => none

/-- `JOY_AXIS(axis, a)` (R186), gated by the mode (R187). -/
def joyAxis (axis : Byte) (a : BitVec 16) (s : State) : State :=
  match s.mode, joyTarget axis a with
  | .joystick, some (k, v) => chSet k (BitVec.ofInt 32 (joyMap v)) s
  | _, _ => s

/-- A control input applied (45 R171). -/
def applyControl (now : Time) (c : Control) (s : State) : State :=
  match c with
  | .chSet k us => chSet k us s
  | .setMode m => setMode m s
  | .joyAxis axis a => joyAxis axis a s
  | .forceSend => send now s

/-- Control inputs applied in order (45 R171). -/
def applyControls (now : Time) (cs : List Control) (s : State) : State := cs.foldl (fun s c => applyControl now c s) s

/-- `SCHED_ITER(inputs, now)` (45 R171). -/
def schedIter (inputs : List Control) (now : Time) (s : State) : State :=
  if s.stopped then s else tick now (applyControls now inputs s)

/-- The control inputs that a list of pairs becomes: each pair in range one CH_SET, the others dropped (46 R182). -/
def ingress : List (Int × Int) → List Control
  | [] => []
  | q :: qs => if inCommandRange q.1 q.2 then .chSet q.1 (BitVec.ofInt 32 q.2) :: ingress qs else ingress qs

/-- `setChannel <i> <us>` applied (46 R181). -/
def setChannel (i us : Int) (s : State) : State :=
  if inCommandRange i us then chSet i (BitVec.ofInt 32 us) s else raise .cmdReject s

/-- `setChannels` applied (46 R182). -/
def setChannels (pairs : List (Int × Int)) (s : State) : State := applyControls 0 (ingress pairs) s

/-- `STOP` (46 R188). -/
def stop (s : State) : State := { s with stopped := true }

/-! Host access (10_state.md R33, 20_memory.md R51). -/

/-- The atomic copy of the telemetry record (20_memory.md R51). -/
def recordCopy (s : State) : Record :=
  ⟨s.gps, s.bat, s.att, s.linkstat, s.fm, s.linkUp, s.lastReceiveMs, s.lastChannelsMs, s.lastTxMs⟩

/-- Four bytes of a byte register as a word, byte `4k` in bits 7:0 (R33); bytes past the end read as zero. -/
def byteWord (bs : List Byte) (k : Nat) : BitVec 32 :=
  be32 (byteAt bs (4 * k + 3)) (byteAt bs (4 * k + 2)) (byteAt bs (4 * k + 1)) (byteAt bs (4 * k))

/-- The registers outside the telemetry groups, read as they are; no value for another number. `CMD` reads zero. -/
def plainWord (n : Nat) (s : State) : Option (BitVec 32) :=
  if h : n < 16 then some s.ch[n]
  else match n with
    | 0x10 => some (statusWord s)
    | 0x11 => some s.lastReceiveMs
    | 0x12 => some s.lastChannelsMs
    | 0x13 => some s.lastTxMs
    | 0x14 => some (ctrlWord s)
    | 0x15 => some 0
    | _ => none

/-- The registers of the GPS group: signed elements are sign-extended, the others zero-extended (R33). -/
def gpsWord (n : Nat) (g : Gps) : Option (BitVec 32) :=
  match n with
  | 0x20 => some g.lat
  | 0x21 => some g.lon
  | 0x22 => some (g.speed.setWidth 32)
  | 0x23 => some (g.heading.setWidth 32)
  | 0x24 => some (g.alt.setWidth 32)
  | 0x25 => some (g.sats.setWidth 32)
  | _ => none

/-- The registers of the battery group. -/
def batteryWord (n : Nat) (b : Battery) : Option (BitVec 32) :=
  match n with
  | 0x28 => some (b.voltage.setWidth 32)
  | 0x29 => some (b.current.setWidth 32)
  | 0x2A => some (b.capacity.setWidth 32)
  | 0x2B => some (b.remaining.setWidth 32)
  | _ => none

/-- The registers of the attitude group. -/
def attitudeWord (n : Nat) (a : Attitude) : Option (BitVec 32) :=
  match n with
  | 0x30 => some (a.pitchRaw.signExtend 32)
  | 0x31 => some (a.rollRaw.signExtend 32)
  | 0x32 => some (a.yawRaw.signExtend 32)
  | _ => none

/-- The registers of the link-statistics group. -/
def linkStatWord (n : Nat) (l : LinkStat) : Option (BitVec 32) :=
  if 0x38 ≤ n ∧ n ≤ 0x3A then some (byteWord l.bytes.toList (n - 0x38)) else none

/-- The registers of the flight-mode group. -/
def flightModeWord (n : Nat) (f : FlightMode) : Option (BitVec 32) :=
  if n = 0x3F then some (BitVec.ofNat 32 f.bytes.length)
  else if 0x40 ≤ n ∧ n ≤ 0x4E then some (byteWord f.bytes (n - 0x40))
  else none

/-- The registers of the telemetry groups, read as they are; no value for another number. -/
def telemetryWord (n : Nat) (s : State) : Option (BitVec 32) :=
  match gpsWord n s.gps, batteryWord n s.bat, attitudeWord n s.att, linkStatWord n s.linkstat, flightModeWord n s.fm with
  | some w, _, _, _, _ => some w
  | _, some w, _, _, _ => some w
  | _, _, some w, _, _ => some w
  | _, _, _, some w, _ => some w
  | _, _, _, _, w => w

/-- The word of register `n` (R33), none for a number that R33 does not list. It is a function of the state and changes nothing: reading a register
"has no side effect and may be repeated" (20_memory.md R53), and it "returns the value of the latest write before it" (R54). -/
def regRead (n : Nat) (s : State) : Option (BitVec 32) :=
  match plainWord n s with
  | some w => some w
  | none => telemetryWord n s

/-- The registers of a telemetry group (R33). -/
def groupRegisters : Group → List Nat
  | .gps => [0x20, 0x21, 0x22, 0x23, 0x24, 0x25]
  | .bat => [0x28, 0x29, 0x2A, 0x2B]
  | .att => [0x30, 0x31, 0x32]
  | .linkstat => [0x38, 0x39, 0x3A]
  | .fm => (List.range 16).map (0x3F + ·)

/-- The registers of one group, all from one state: a host that reads word by word "may see groups of different ages but never a torn group" (20_memory.md
R51, 92 D34). That such a host's reading of one group is one step is the model's choice (log 40). -/
def groupRead (g : Group) (s : State) : List (Nat × BitVec 32) :=
  (groupRegisters g).filterMap fun n => (regRead n s).map (n, ·)

/-- Whether R33 lists register `n`. -/
def isRegister (n : Nat) (s : State) : Bool := (regRead n s).isSome

/-- A write of `CTRL` (R33): bit 0 `ignore_telemetry`, bit 1 `mode`, the other bits ignored. -/
def writeCtrl (v : BitVec 32) (s : State) : State :=
  setMode (if v.getLsbD 1 then .manual else .joystick) (setIgnoreTel (v.getLsbD 0) s)

/-- A FORCE_SEND that the host asks for. The TX scheduler executes it and is the only writer of `last_tx_ms` and `tx_inflight` (00_scope.md R5), so the
host's step only puts it behind the steps the scheduler still has to take; the scheduler takes its four atomic steps in turns of its own (R52). The spec does
not say which clock value such a send takes as its `now`: DESIGN CHOICE, the clock value of the register write (log 10). -/
def requestSend (now : Time) (s : State) : State :=
  if s.stopped then s else { s with txPlan := s.txPlan ++ [.control .forceSend now] }

/-- A write of `CMD` (R33): bit 0 FORCE_SEND, bit 1 STOP. A write is one atomic step of the host, so with both bits no send follows, in whichever order they
are taken: after it no agent has a step (log 10). -/
def writeCmd (v : BitVec 32) (now : Time) (s : State) : State :=
  if v.getLsbD 1 then stop s
  else if v.getLsbD 0 then requestSend now s
  else s

/-- A host read of a register as a step. -/
def busRead (n : Nat) (s : State) : Answer :=
  match regRead n s with
  | some w => .next (answer (.word w) s)
  | none => .fault (.noSuchRegister n)

/-- A host write of a register as a step. -/
def busWrite (n : Nat) (v : BitVec 32) (now : Time) (s : State) : Answer :=
  if n < 16 then .next (whenRunning s (chSet (n + 1) v s))
  else if n = 0x14 then .next (whenRunning s (writeCtrl v s))
  else if n = 0x15 then .next (whenRunning s (writeCmd v now s))
  else if isRegister n s then .fault (.readOnlyRegister n)
  else .fault (.noSuchRegister n)

/-- An invalid command line: "dropped silently" with a label (46 R189, 60_exceptions.md R209). In a stopped block it leaves no label (log 11). -/
def dropCommand (s : State) : State := whenRunning s (raise .cmdReject s)

end Sys2Proof.Machine.Ops
end

