-- ==== Sys2Proof/Machine/Agents.lean ====
section
/-! DEFINITION. Composite operations at the grain of 20_memory.md R52: the atomic steps an operation consists of, one such step, and an agent's turn.
Between two steps of one agent any other agent may act (R52, R54); running the steps with nothing between them is what the operation does whole. -/

namespace Sys2Proof.Machine.Agents

/-- The steps of one SEND (45_send_scheduler.md R170). -/
def sendSteps (now : Time) : List Task := [.stamp now, .build, .gate, .emit]

/-- The agent and the atomic steps of a composite operation; none for an operation that is one atomic step itself. -/
def stepsOf : Instr → Option (Engine × List Task)
  | .consume now => some (.rx, [.consume now])
  | .tmo now => some (.rx, [.tmoTest now])
  | .step rx fin now =>
    some (.rx, rx.map (fun q => .rxb q.1 q.2) ++ (if fin = .error then [.readErr] else []) ++ [.consume now, .tmoTest now, .ldn now])
  | .tick now => some (.tx, [.tick now])
  | .send now => some (.tx, sendSteps now)
  | .forceSend now => some (.tx, sendSteps now)
  | .sendChannels now => some (.tx, sendSteps now)
  | .schedIter inputs now => some (.tx, inputs.map (fun c => .control c now) ++ [.tick now])
  | .setChannels pairs => some (.tx, (Ops.ingress pairs).map fun c => .control c 0)
  | .rc _ _ | .gps _ | .batt _ | .linkstat _ | .att _ | .fmode _ => none
  | .shortPayload _ _ | .unknown _ _ | .foreignAddr _ _ _ | .txRc => none
  | .crc8 _ | .frameCheck _ _ | .frameEncode _ _ _ | .code2usRaw _ | .code2us _ | .us2code _ => none
  | .pack _ | .unpack _ | .packChannels _ | .unpackChannels _ | .attDegrees => none
  | .rxb _ _ | .waitHdr | .resync | .waitBody | .crcOk _ | .crcBad | .ldn _ | .dispatch _ _ _ _ => none
  | .chGet _ | .chSet _ _ | .chSnapshot | .sendBuild | .sendGate | .sendEmit => none
  | .setMode _ | .setIgnoreTel _ | .joyAxis _ _ | .stop | .setChannel _ _ | .setModeText _ => none

/-- One atomic step (R52): the state after it, and the steps that it puts in front of the agent's remaining ones. R52 lists "one `shift(1)` of TMO" and is
silent on TMO's test: that the test with its label TRUNCATED is a step of its own, before the first `shift(1)`, is the model's choice; so are the other steps
here that R52 does not list (log 17). -/
def runTask (t : Task) (s : State) : State × List Task :=
  match t with
  | .rxb b t => (Ops.rxb b t s, [])
  | .readErr => (Ops.raise .transportReadErr s, [])
  | .consume now =>
    match Ops.consumePass now s with
    | (s', true) => (s', [.consume now])
    | (s', false) => (s', [])
  | .tmoTest now => if packetTimedOut s now then (Ops.raise .truncated s, [.tmoShift now]) else (s, [])
  | .tmoShift now => if 0 < s.rxLen then (Ops.shift 1 s, [.consume now, .tmoShift now]) else (s, [])
  | .ldn now => (Ops.ldn now s, [])
  | .control .forceSend now => (Ops.stamp now s, [.build, .gate, .emit])
  | .control c now => (Ops.applyControl now c s, [])
  | .tick now => if sendDue s now then (Ops.stamp now s, [.build, .gate, .emit]) else (s, [])
  | .stamp now => (Ops.stamp now s, [])
  | .build => (Ops.sendBuild s, [])
  | .gate => (Ops.sendGate s, [])
  | .emit => (Ops.sendEmit s, [])

/-- Steps run one after another with no step of another agent between them, at most so many. -/
def runTasks : Nat → List Task → State → State
  | 0, _, s => s
  | _, [], s => s
  | n + 1, t :: ts, s => runTasks n ((runTask t s).2 ++ ts) (runTask t s).1

/-- The steps an agent still has to take. -/
def planOf (a : Engine) (s : State) : List Task :=
  match a with
  | .rx => s.rxPlan
  | .tx => s.txPlan

/-- The steps an agent still has to take, replaced. -/
def setPlan (a : Engine) (ts : List Task) (s : State) : State :=
  match a with
  | .rx => { s with rxPlan := ts }
  | .tx => { s with txPlan := ts }

/-- An agent begins an operation, whose steps stand behind any it still has to take: none, after `settle`, unless the operation is a line that the ingress
rejected, which has no step (60_exceptions.md R209). A stopped block begins none (46_control_inputs.md R188). -/
def begin (a : Engine) (ts : List Task) (s : State) : State := if s.stopped then s else setPlan a (planOf a s ++ ts) s

/-- The turn of an agent whose block was stopped in the middle of its operation (46 R188): it "takes no further" step, but a frame in flight may or may not
still be emitted (log 8). -/
def turnAfterStop (a : Engine) (t : Task) (ts : List Task) (s : State) : State :=
  match t with
  | .gate => Ops.perhaps Ops.sendGate (setPlan a ts s)
  | .emit => Ops.perhaps Ops.sendEmit (setPlan a ts s)
  | _ => setPlan a [] s

/-- An agent's turn: its next atomic step, or nothing if it has none to take. -/
def turn (a : Engine) (s : State) : State :=
  match planOf a s with
  | [] => s
  | t :: ts =>
    if s.stopped then turnAfterStop a t ts s
    else setPlan a ((runTask t s).2 ++ ts) (runTask t s).1

/-- A step that is still to be taken, with all the steps that follow from it. -/
def wholeTask (s : State) (t : Task) : State :=
  match t with
  | .consume now => Ops.consume now s
  | .tmoTest now => Ops.tmo now s
  | .tmoShift now => Ops.flushLoop s.rxLen now s
  | .control c now => Ops.applyControl now c s
  | .tick now => Ops.tick now s
  | .rxb _ _ | .readErr | .ldn _ | .stamp _ | .build | .gate | .emit => (runTask t s).1

/-- An agent takes all the steps it still has to take, with no step of another agent between them. -/
def finish (a : Engine) (s : State) : State := setPlan a [] ((planOf a s).foldl wholeTask s)

/-- The state in which an operation begins. An agent does "one after another" (45_send_scheduler.md; each agent's steps in its own order, 20_memory.md R54), so
one that is scheduled to begin an operation in the middle of another first finishes that (log 18). STOP has ended the operation in progress (46 R188), so in a
stopped block there is nothing to finish. -/
def settle (i : Instr) (s : State) : State :=
  if s.stopped then s
  else match i.engine with
    | some a => finish a s
    | none => s

end Sys2Proof.Machine.Agents
end

