-- ==== Sys2Proof/Machine/ControlInputs.lean ====
section
/-! DEFINITION. The OP rows of the host and the TEXT rows (46_control_inputs.md). A text command is modelled at the moment the scheduler applies it: the
command queue is the host's and no state of the block (R180; log 28). In a stopped block no agent has a step (log 11). -/

namespace Sys2Proof.Machine

/-- SET_MODE (R184). -/
def execSetMode (m : Mode) (s : State) : Answer := .next (Ops.whenRunning s (Ops.setMode m s))

/-- SET_IGNORE_TEL (R185). -/
def execSetIgnoreTel (v : Bool) (s : State) : Answer := .next (Ops.whenRunning s (Ops.setIgnoreTel v s))

/-- JOY_AXIS (R186, R187). -/
def execJoyAxis (axis : Byte) (a : BitVec 16) (s : State) : Answer := .next (Ops.whenRunning s (Ops.joyAxis axis a s))

/-- STOP (R188). -/
def execStop (s : State) : Answer := .next (Ops.stop s)

/-- `setChannel` (R181). -/
def execSetChannel (i us : Int) (s : State) : Answer := .next (Ops.whenRunning s (Ops.setChannel i us s))

/-- `setChannels` (R182). -/
def execSetChannels (pairs : List (Int × Int)) (s : State) : Answer := .next (Ops.whenRunning s (Ops.setChannels pairs s))

/-- `sendChannels` (R183): FORCE_SEND with the `now` of the iteration that drains it. -/
def execSendChannels (now : Time) (s : State) : Answer := .next (Ops.whenRunning s (Ops.send now s))

/-- `setMode` (R184). -/
def execSetModeText (m : Mode) (s : State) : Answer := .next (Ops.whenRunning s (Ops.setMode m s))

end Sys2Proof.Machine
end

