-- ==== Sys2Proof/Machine/Frames.lean ====
section
/-! DEFINITION. The FRAME rows (43_dispatch.md; 45_send_scheduler.md R166 for TX_RC): what the RX engine does with a frame whose length and CRC are right.
In a stopped block no agent has a step (log 11). -/

namespace Sys2Proof.Machine

/-- RC (R136). -/
def execRc (p : List Byte) (now : Time) (s : State) : Answer :=
  .next (Ops.whenRunning s (Ops.typedFrame .rc p now s))

/-- GPS (R137). -/
def execGps (p : List Byte) (s : State) : Answer :=
  .next (Ops.whenRunning s (Ops.typedFrame .gps p 0 s))

/-- BATT (R138). -/
def execBatt (p : List Byte) (s : State) : Answer :=
  .next (Ops.whenRunning s (Ops.typedFrame .batt p 0 s))

/-- LINKSTAT (R139). -/
def execLinkstat (p : List Byte) (s : State) : Answer :=
  .next (Ops.whenRunning s (Ops.typedFrame .linkstat p 0 s))

/-- ATT (R140). -/
def execAtt (p : List Byte) (s : State) : Answer :=
  .next (Ops.whenRunning s (Ops.typedFrame .att p 0 s))

/-- FMODE (R142). -/
def execFmode (p : List Byte) (s : State) : Answer :=
  .next (Ops.whenRunning s (Ops.typedFrame .fmode p 0 s))

/-- SHORT_PAYLOAD (R144): dropped whole and silently, whatever the type and the payload. -/
def execShortPayload (_ty : Byte) (_p : List Byte) (s : State) : Answer :=
  .next (Ops.whenRunning s (Ops.raise .shortPayload s))

/-- UNKNOWN (R143): silently dropped. -/
def execUnknown (_ty : Byte) (_p : List Byte) (s : State) : Answer :=
  .next (Ops.whenRunning s (Ops.raise .unknownType s))

/-- FOREIGN_ADDR (R135): consumed, not dispatched. -/
def execForeignAddr (_addr _ty : Byte) (_p : List Byte) (s : State) : Answer :=
  .next (Ops.whenRunning s (Ops.raise .foreignAddr s))

/-- TX_RC (R166, 30 R73): the one transmitted frame is formed from the channel snapshot (log 15). -/
def execTxRc (s : State) : Answer :=
  .next (Ops.whenRunning s (Ops.sendBuild s))

end Sys2Proof.Machine
end

