-- ==== Sys2Proof/Machine/Functions.lean ====
section
/-! DEFINITION. The FUNC rows (40_frame_codec.md, 41_channel_codec.md, 43_dispatch.md R141): pure functions, whose value goes to the caller (log 4). They
change no state of the block and do not depend on `stopped`. -/

namespace Sys2Proof.Machine

/-- CRC8 (R90). -/
def execCrc8 (bs : List Byte) (s : State) : Answer := .next (Ops.answer (.byte (crc8 bs)) s)

/-- FRAME_CHECK (R92) over the first `len` bytes of `buf`. -/
def execFrameCheck (buf : List Byte) (len : Nat) (s : State) : Answer :=
  .next (Ops.answer (.verdict (frameCheck (buf.take len))) s)

/-- FRAME_ENCODE (R93): a payload outside 1 to 60 bytes is refused and no frame is produced (log 35). -/
def execFrameEncode (addr ty : Byte) (p : List Byte) (s : State) : Answer :=
  .next (Ops.answer (match frameEncode addr ty p with | some f => .bytes f | none => .noFrame) s)

/-- CODE2US_RAW (R100). -/
def execCode2usRaw (code : Int) (s : State) : Answer := .next (Ops.answer (.int (code2usRaw code)) s)

/-- CODE2US (R101). -/
def execCode2us (code : BitVec 11) (s : State) : Answer := .next (Ops.answer (.int (code2us code.toNat)) s)

/-- US2CODE (R103). -/
def execUs2code (us : Chan) (s : State) : Answer := .next (Ops.answer (.int (us2code us.toInt)) s)

/-- PACK (R104). -/
def execPack (codes : Vector Chan 16) (s : State) : Answer :=
  .next (Ops.answer (.bytes (pack (codes.toList.map BitVec.toInt))) s)

/-- UNPACK (R105). -/
def execUnpack (p : List Byte) (s : State) : Answer := .next (Ops.answer (.codes (unpack p)) s)

/-- PACK_CHANNELS (R106). -/
def execPackChannels (us : Vector Chan 16) (s : State) : Answer := .next (Ops.answer (.bytes (packChannels us)) s)

/-- UNPACK_CHANNELS (R107). -/
def execUnpackChannels (p : List Byte) (s : State) : Answer := .next (Ops.answer (.channels (unpackChannels p)) s)

/-- ATT_DEGREES (R141) of the three raw registers. -/
def execAttDegrees (s : State) : Answer :=
  .next (Ops.answer (.degrees (attDegrees s.att.pitchRaw s.att.rollRaw s.att.yawRaw)) s)

end Sys2Proof.Machine
end

