-- ==== Sys2Proof/Machine/LinkEngine.lean ====
section
/-! DEFINITION. The OP rows of the RX engine (42_link_engine.md, 43_dispatch.md R135). A case row of CONSUME is one pass of the loop in which FRAME_CHECK
selects that case; where it selects another, the row has no step and is refused by name (log 13). In a stopped block no agent has a step (log 11). -/

namespace Sys2Proof.Machine

/-- RXB (R116). -/
def execRxb (b : Byte) (t : Time) (s : State) : Answer := .next (Ops.whenRunning s (Ops.rxb b t s))

/-- CONSUME (R117). -/
def execConsume (now : Time) (s : State) : Answer := .next (Ops.whenRunning s (Ops.consume now s))

/-- WAIT_HDR (R118): nothing changes. -/
def execWaitHdr (s : State) : Answer :=
  match frameCheck s.rxBuf with
  | .waitHdr => .next s
  | _ => .refused .caseNotSelected

/-- RESYNC (R119). -/
def execResync (s : State) : Answer :=
  match frameCheck s.rxBuf with
  | .resync => .next (Ops.whenRunning s (Ops.resync s))
  | _ => .refused .caseNotSelected

/-- WAIT_BODY (R120): nothing changes. -/
def execWaitBody (s : State) : Answer :=
  match frameCheck s.rxBuf with
  | .waitBody _ => .next s
  | _ => .refused .caseNotSelected

/-- CRC_OK (R121). -/
def execCrcOk (now : Time) (s : State) : Answer :=
  match frameCheck s.rxBuf with
  | .crcOk L => .next (Ops.whenRunning s (Ops.crcOk L now s))
  | _ => .refused .caseNotSelected

/-- CRC_BAD (R122). -/
def execCrcBad (s : State) : Answer :=
  match frameCheck s.rxBuf with
  | .crcBad L => .next (Ops.whenRunning s (Ops.crcBad L s))
  | _ => .refused .caseNotSelected

/-- TMO (R123). -/
def execTmo (now : Time) (s : State) : Answer := .next (Ops.whenRunning s (Ops.tmo now s))

/-- LDN (R125). -/
def execLdn (now : Time) (s : State) : Answer := .next (Ops.whenRunning s (Ops.ldn now s))

/-- STEP (R126). -/
def execStep (rx : List (Byte × Time)) (fin : ReadEnd) (now : Time) (s : State) : Answer := .next (Ops.step rx fin now s)

/-- DISPATCH (R135). -/
def execDispatch (addr ty : Byte) (p : List Byte) (now : Time) (s : State) : Answer :=
  .next (Ops.whenRunning s (Ops.dispatch addr ty p now s))

end Sys2Proof.Machine
end

