-- ==== Sys2Proof/Machine/Scheduler.lean ====
section
/-! DEFINITION. The OP rows of the TX scheduler (45_send_scheduler.md). SEND_GATE has its entry condition `built(frame)` and SEND_EMIT `passed(frame)`: out of
the agent's sequence they are refused by name (log 14). In a stopped block no agent has a step, but a frame in flight may or may not still be emitted
(log 8, log 11). -/

namespace Sys2Proof.Machine

/-- TICK (R165). -/
def execTick (now : Time) (s : State) : Answer := .next (Ops.whenRunning s (Ops.tick now s))

/-- SEND_BUILD (R166). -/
def execSendBuild (s : State) : Answer := .next (Ops.whenRunning s (Ops.sendBuild s))

/-- SEND_GATE (R167). -/
def execSendGate (s : State) : Answer :=
  match s.txInflight with
  | .built _ => .next (if s.stopped then Ops.perhaps Ops.sendGate s else Ops.sendGate s)
  | _ => .refused .noFrameInFlight

/-- SEND_EMIT (R168). -/
def execSendEmit (s : State) : Answer :=
  match s.txInflight with
  | .passed _ => .next (if s.stopped then Ops.perhaps Ops.sendEmit s else Ops.sendEmit s)
  | _ => .refused .noFrameInFlight

/-- SEND (R170). -/
def execSend (now : Time) (s : State) : Answer := .next (Ops.whenRunning s (Ops.send now s))

/-- FORCE_SEND (R170): no test of the 10 ms gate. -/
def execForceSend (now : Time) (s : State) : Answer := .next (Ops.whenRunning s (Ops.send now s))

/-- SCHED_ITER (R171). -/
def execSchedIter (inputs : List Control) (now : Time) (s : State) : Answer := .next (Ops.schedIter inputs now s)

end Sys2Proof.Machine
end

