-- ==== Sys2Proof/Machine/Store.lean ====
section
/-! DEFINITION. The OP rows of the channel store (44_channel_store.md). A read has no side effect (20_memory.md R53) and works in a stopped block too; a
write is a step of an agent (log 11). -/

namespace Sys2Proof.Machine

/-- CH_GET (R155). -/
def execChGet (k : Int) (s : State) : Answer := .next (Ops.answer (.int (Ops.chGet k s)) s)

/-- CH_SET (R156). -/
def execChSet (k : Int) (us : Chan) (s : State) : Answer := .next (Ops.whenRunning s (Ops.chSet k us s))

/-- CH_SNAPSHOT (R157). -/
def execChSnapshot (s : State) : Answer := .next (Ops.answer (.channels (Ops.chSnapshot s)) s)

end Sys2Proof.Machine
end

