-- ==== Sys2Proof/Machine/Dispatch.lean ====
section
/-! DEFINITION. One arm per operation of spec/opcode_table.json. -/

namespace Sys2Proof.Machine

def exec (i : Instr) (s : State) : Host.Outcome State Fault Refusal :=
  match i with
  | .rc p now => Sys2Proof.Machine.execRc p now s
  | .gps p => Sys2Proof.Machine.execGps p s
  | .batt p => Sys2Proof.Machine.execBatt p s
  | .linkstat p => Sys2Proof.Machine.execLinkstat p s
  | .att p => Sys2Proof.Machine.execAtt p s
  | .fmode p => Sys2Proof.Machine.execFmode p s
  | .shortPayload ty p => Sys2Proof.Machine.execShortPayload ty p s
  | .unknown ty p => Sys2Proof.Machine.execUnknown ty p s
  | .foreignAddr addr ty p => Sys2Proof.Machine.execForeignAddr addr ty p s
  | .txRc => Sys2Proof.Machine.execTxRc s
  | .crc8 bs => Sys2Proof.Machine.execCrc8 bs s
  | .frameCheck buf len => Sys2Proof.Machine.execFrameCheck buf len s
  | .frameEncode addr ty p => Sys2Proof.Machine.execFrameEncode addr ty p s
  | .code2usRaw code => Sys2Proof.Machine.execCode2usRaw code s
  | .code2us code => Sys2Proof.Machine.execCode2us code s
  | .us2code us => Sys2Proof.Machine.execUs2code us s
  | .pack codes => Sys2Proof.Machine.execPack codes s
  | .unpack p => Sys2Proof.Machine.execUnpack p s
  | .packChannels us => Sys2Proof.Machine.execPackChannels us s
  | .unpackChannels p => Sys2Proof.Machine.execUnpackChannels p s
  | .attDegrees => Sys2Proof.Machine.execAttDegrees s
  | .rxb b t => Sys2Proof.Machine.execRxb b t s
  | .consume now => Sys2Proof.Machine.execConsume now s
  | .waitHdr => Sys2Proof.Machine.execWaitHdr s
  | .resync => Sys2Proof.Machine.execResync s
  | .waitBody => Sys2Proof.Machine.execWaitBody s
  | .crcOk now => Sys2Proof.Machine.execCrcOk now s
  | .crcBad => Sys2Proof.Machine.execCrcBad s
  | .tmo now => Sys2Proof.Machine.execTmo now s
  | .ldn now => Sys2Proof.Machine.execLdn now s
  | .step rx fin now => Sys2Proof.Machine.execStep rx fin now s
  | .dispatch addr ty p now => Sys2Proof.Machine.execDispatch addr ty p now s
  | .chGet k => Sys2Proof.Machine.execChGet k s
  | .chSet k us => Sys2Proof.Machine.execChSet k us s
  | .chSnapshot => Sys2Proof.Machine.execChSnapshot s
  | .tick now => Sys2Proof.Machine.execTick now s
  | .sendBuild => Sys2Proof.Machine.execSendBuild s
  | .sendGate => Sys2Proof.Machine.execSendGate s
  | .sendEmit => Sys2Proof.Machine.execSendEmit s
  | .send now => Sys2Proof.Machine.execSend now s
  | .forceSend now => Sys2Proof.Machine.execForceSend now s
  | .schedIter inputs now => Sys2Proof.Machine.execSchedIter inputs now s
  | .setMode m => Sys2Proof.Machine.execSetMode m s
  | .setIgnoreTel v => Sys2Proof.Machine.execSetIgnoreTel v s
  | .joyAxis axis a => Sys2Proof.Machine.execJoyAxis axis a s
  | .stop => Sys2Proof.Machine.execStop s
  | .setChannel i' us => Sys2Proof.Machine.execSetChannel i' us s
  | .setChannels pairs => Sys2Proof.Machine.execSetChannels pairs s
  | .sendChannels now => Sys2Proof.Machine.execSendChannels now s
  | .setModeText m => Sys2Proof.Machine.execSetModeText m s

end Sys2Proof.Machine
end

