-- ==== Sys2Proof/Machine/Fetch.lean ====
section
/-! DEFINITION. What each scheduled entry does: from an invocation to the operation it runs, an agent's turn, the host's register port (log 1). -/

namespace Sys2Proof.Machine

/-- What a scheduled invocation comes to. -/
inductive Fetched where
  /-- An operation to run. -/
  | run (i : Instr)
  /-- A command line that is this operation or an invalid command: the spec leaves its lexical form open (91 N9; log 16). -/
  | mayRun (i : Instr)
  /-- An invalid command: no control input (46_control_inputs.md R189). -/
  | drop
  /-- No operation at all. -/
  | stop (r : Refusal)
deriving DecidableEq, Repr

/-- The operation of an invocation. -/
def fetch (e : Encoded) : Fetched :=
  match decode e with
  | .ok i => .run i
  | .error (.openLexicalForm i) => .mayRun i
  | .error .invalidCommand => .drop
  | .error r => .stop (.undecodable r)

/-- An operation begins at the grain of 20_memory.md R52: a composite one lays down its atomic steps, another is one atomic step itself. -/
def beginOp (i : Instr) (s : State) : Answer :=
  match Agents.stepsOf i with
  | some (a, ts) => .next (Agents.begin a ts s)
  | none => exec i s

/-- An invocation is received: its operation goes on as `go` says, in the state in which its agent can begin it. -/
def receive (go : Instr → State → Answer) (e : Encoded) (s : State) : Answer :=
  match fetch e with
  | .run i => go i (Agents.settle i s)
  | .mayRun i =>
    if Config.freeBit s.freeCount then go i (Agents.settle i (Ops.countFree s)) else .next (Ops.dropCommand (Ops.countFree s))
  | .drop => .next (Ops.dropCommand s)
  | .stop c => .refused c

/-- One scheduled entry, already taken from the agenda. -/
def runEntry (e : Entry) (s : State) : Answer :=
  match e with
  | .invoke r => receive exec r s
  | .start r => receive beginOp r s
  | .resume a => .next (Agents.turn a s)
  | .regRead n => Ops.busRead n s
  | .groupRead g => .next (Ops.answer (.words (Ops.groupRead g s)) s)
  | .regWrite n v now => Ops.busWrite n v now s
  | .recordCopy => .next (Ops.answer (.record (Ops.recordCopy s)) s)

/-- The state in which the table word's invocation is what the next step runs: it stands first in the agenda, and the RX engine, whose operation it is, is
between operations (log 1, log 26). -/
def placeTableWord (s : State) (nbits w : Nat) : State :=
  { s with agenda := .invoke (tableRecord nbits w) :: s.agenda, rxPlan := [] }

end Sys2Proof.Machine
end

