-- ==== Sys2Proof/Machine/Step.lean ====
section
/-! DEFINITION. One step of the machine: what the environment scheduled next happens. The block fetches no instructions (10_state.md R31) and "acts only when
an operation is invoked; nothing happens between invocations" (70_reset_and_hazards.md R233), so an empty agenda changes nothing. -/

namespace Sys2Proof.Machine

/-- One step. -/
def step (s : State) : Host.Outcome State Fault Refusal :=
  match s.agenda with
  | [] => .next s
  | e :: rest => runEntry e { s with agenda := rest }

/-- `s` with the instruction of a table word placed where the next step takes it. -/
def State.withFetchWord (s : State) (nbits w : Nat) : State := placeTableWord s nbits w

end Sys2Proof.Machine
end

