-- ==== Sys2Proof/Safety.lean ====
section
/-! DEFINITION. What the block keeps true, and the terms that statements use (10_state.md R14, R23, R30). -/

namespace Sys2Proof.Machine

/-- The link state that a history of strobes leaves, from LinkDown: `on_link_up` only in LinkDown, `on_link_down` only in LinkUp (R124, 60 R205); no value
if the history holds a strobe out of turn. -/
def linkAfter (up : Bool) : List Event → Option Bool
  | [] => some up
  | .onLinkUp :: es => if up then none else linkAfter true es
  | .onLinkDown :: es => if up then linkAfter false es else none
  | _ :: es => linkAfter up es

/-- A frame the block may send: 26 bytes, `C8 18 16`, and a CRC that FRAME_CHECK accepts (30_encoding.md R73). -/
def sendable (f : List Byte) : Bool :=
  f.length == 26 && f.take 3 == [Config.addrFc, 0x18, Config.typeRc] && frameCheck f == .crcOk 24

/-- What may stand on the line: a sendable frame, or a proper part from the front of one (20_memory.md R45, 93 U5). -/
def TxItem.ok : TxItem → Prop
  | .frame f => sendable f = true
  | .partialFrame b => ∃ f, sendable f = true ∧ b <+: f ∧ b.length < f.length

/-- The frame in flight, if any, is a sendable one (R23, R73). -/
def Inflight.ok : Inflight → Bool
  | .none => true
  | .built f => sendable f
  | .passed f => sendable f

/-- The invariant of the block: the buffer keeps its canonical form (R30 (1)), flight mode holds at most 60 bytes (R30 (6)), the frame in flight and the
transmitted stream consist of RC frames (R23, R73), and the strobes alternate and agree with `link_up` (R14, R124). -/
structure Inv (s : State) : Prop where
  buffer : s.rxBuf.wf = true
  flightMode : s.fm.bytes.length ≤ Config.payloadMax
  inflight : s.txInflight.ok = true
  line : ∀ x ∈ s.txLine, x.ok
  link : linkAfter false s.events = some s.linkUp

/-- The block is running (R26). -/
def State.running (s : State) : Prop := s.stopped = false

/-- Operations one after another, stopping at the first that does not answer a next state. -/
def execAll : List Instr → State → Host.Outcome State Fault Refusal
  | [], s => .next s
  | i :: is, s =>
    match exec i s with
    | .next t => execAll is t
    | .fault r => .fault r
    | .refused r => .refused r

/-- So many steps of the machine, stopping at the first that does not answer a next state. -/
def stepN : Nat → State → Host.Outcome State Fault Refusal
  | 0, s => .next s
  | n + 1, s =>
    match step s with
    | .next t => stepN n t
    | .fault r => .fault r
    | .refused r => .refused r

/-- The flush of TMO (42_link_engine.md R123, 70_reset_and_hazards.md R248), from one state to another: while a byte is left, the oldest goes and CONSUME
runs again. -/
inductive Flushed (now : Time) : State → State → Prop
  | empty (s : State) : s.rxBuf = [] → Flushed now s s
  | round (s u t : State) : s.rxBuf ≠ [] → exec (.consume now) { s with rxBuf := s.rxBuf.drop 1 } = .next u → Flushed now u t → Flushed now s t

/-- The table `T[i] = CRC8([i])` (40_frame_codec.md R91, 95_test_vectors.md 2.1). -/
def crcTable : List Byte :=
  [0x00, 0xD5, 0x7F, 0xAA, 0xFE, 0x2B, 0x81, 0x54, 0x29, 0xFC, 0x56, 0x83, 0xD7, 0x02, 0xA8, 0x7D] ++
  [0x52, 0x87, 0x2D, 0xF8, 0xAC, 0x79, 0xD3, 0x06, 0x7B, 0xAE, 0x04, 0xD1, 0x85, 0x50, 0xFA, 0x2F] ++
  [0xA4, 0x71, 0xDB, 0x0E, 0x5A, 0x8F, 0x25, 0xF0, 0x8D, 0x58, 0xF2, 0x27, 0x73, 0xA6, 0x0C, 0xD9] ++
  [0xF6, 0x23, 0x89, 0x5C, 0x08, 0xDD, 0x77, 0xA2, 0xDF, 0x0A, 0xA0, 0x75, 0x21, 0xF4, 0x5E, 0x8B] ++
  [0x9D, 0x48, 0xE2, 0x37, 0x63, 0xB6, 0x1C, 0xC9, 0xB4, 0x61, 0xCB, 0x1E, 0x4A, 0x9F, 0x35, 0xE0] ++
  [0xCF, 0x1A, 0xB0, 0x65, 0x31, 0xE4, 0x4E, 0x9B, 0xE6, 0x33, 0x99, 0x4C, 0x18, 0xCD, 0x67, 0xB2] ++
  [0x39, 0xEC, 0x46, 0x93, 0xC7, 0x12, 0xB8, 0x6D, 0x10, 0xC5, 0x6F, 0xBA, 0xEE, 0x3B, 0x91, 0x44] ++
  [0x6B, 0xBE, 0x14, 0xC1, 0x95, 0x40, 0xEA, 0x3F, 0x42, 0x97, 0x3D, 0xE8, 0xBC, 0x69, 0xC3, 0x16] ++
  [0xEF, 0x3A, 0x90, 0x45, 0x11, 0xC4, 0x6E, 0xBB, 0xC6, 0x13, 0xB9, 0x6C, 0x38, 0xED, 0x47, 0x92] ++
  [0xBD, 0x68, 0xC2, 0x17, 0x43, 0x96, 0x3C, 0xE9, 0x94, 0x41, 0xEB, 0x3E, 0x6A, 0xBF, 0x15, 0xC0] ++
  [0x4B, 0x9E, 0x34, 0xE1, 0xB5, 0x60, 0xCA, 0x1F, 0x62, 0xB7, 0x1D, 0xC8, 0x9C, 0x49, 0xE3, 0x36] ++
  [0x19, 0xCC, 0x66, 0xB3, 0xE7, 0x32, 0x98, 0x4D, 0x30, 0xE5, 0x4F, 0x9A, 0xCE, 0x1B, 0xB1, 0x64] ++
  [0x72, 0xA7, 0x0D, 0xD8, 0x8C, 0x59, 0xF3, 0x26, 0x5B, 0x8E, 0x24, 0xF1, 0xA5, 0x70, 0xDA, 0x0F] ++
  [0x20, 0xF5, 0x5F, 0x8A, 0xDE, 0x0B, 0xA1, 0x74, 0x09, 0xDC, 0x76, 0xA3, 0xF7, 0x22, 0x88, 0x5D] ++
  [0xD6, 0x03, 0xA9, 0x7C, 0x28, 0xFD, 0x57, 0x82, 0xFF, 0x2A, 0x80, 0x55, 0x01, 0xD4, 0x7E, 0xAB] ++
  [0x84, 0x51, 0xFB, 0x2E, 0x7A, 0xAF, 0x05, 0xD0, 0xAD, 0x78, 0xD2, 0x07, 0x53, 0x86, 0x2C, 0xF9]

/-- The numbers that 10_state.md R33 lists. -/
def registerNumbers : List Nat :=
  List.range 0x16 ++ [0x20, 0x21, 0x22, 0x23, 0x24, 0x25] ++ [0x28, 0x29, 0x2A, 0x2B] ++ [0x30, 0x31, 0x32] ++ [0x38, 0x39, 0x3A] ++
  (List.range 16).map (0x3F + ·)

/-- The numbers that R33 gives to the registers of a telemetry group. -/
def groupNumbers : Group → List Nat
  | .gps => [0x20, 0x21, 0x22, 0x23, 0x24, 0x25]
  | .bat => [0x28, 0x29, 0x2A, 0x2B]
  | .att => [0x30, 0x31, 0x32]
  | .linkstat => [0x38, 0x39, 0x3A]
  | .fm => [0x3F, 0x40, 0x41, 0x42, 0x43, 0x44, 0x45, 0x46, 0x47, 0x48, 0x49, 0x4A, 0x4B, 0x4C, 0x4D, 0x4E]

/-- The operation that a control input is (45_send_scheduler.md R171). -/
def controlOp (now : Time) : Control → Instr
  | .chSet k us => .chSet k us
  | .setMode m => .setMode m
  | .joyAxis axis a => .joyAxis axis a
  | .forceSend => .forceSend now

/-- An atomic step is an operation of its own, and these steps come next. -/
def stepIsOperation (t : Task) (i : Instr) (next : List Task) (s : State) : Prop :=
  exec i s = .next (Agents.runTask t s).1 ∧ (Agents.runTask t s).2 = next

/-- Everything outside the receive side is as before: what the RX engine may not write (00_scope.md R5, 60_exceptions.md R214). -/
def sendSideKept (s t : State) : Prop :=
  t.lastTxMs = s.lastTxMs ∧ t.txInflight = s.txInflight ∧ t.ignoreTel = s.ignoreTel ∧ t.mode = s.mode ∧ t.stopped = s.stopped ∧
  t.txLine = s.txLine ∧ t.emitAnswers = s.emitAnswers ∧ t.agenda = s.agenda ∧ t.rxPlan = s.rxPlan ∧ t.txPlan = s.txPlan ∧
  t.result = s.result ∧ t.freeCount = s.freeCount

/-- The receive side is as before: what only the RX engine writes (00_scope.md R5). -/
def receiveSideKept (s t : State) : Prop :=
  t.rxBuf = s.rxBuf ∧ t.lastReceiveMs = s.lastReceiveMs ∧ t.lastChannelsMs = s.lastChannelsMs ∧ t.linkUp = s.linkUp ∧
  t.gps = s.gps ∧ t.bat = s.bat ∧ t.att = s.att ∧ t.linkstat = s.linkstat ∧ t.fm = s.fm

/-- A channel inside the nominal range (10_state.md R15). -/
def inRange (c : Chan) : Prop := 1000 ≤ c.toInt ∧ c.toInt ≤ 2000

/-- The big-endian number of `n` payload bytes from byte `k` (00_scope.md R8), as arithmetic. -/
def bigEndian (p : List Byte) (k : Nat) : Nat → Nat
  | 0 => 0
  | n + 1 => 256 * bigEndian p k n + (p.getD (k + n) 0).toNat

/-- The two's-complement reading of a number of `w` bits (`sext`, 00_scope.md R8). -/
def signed (w n : Nat) : Int := if n < 2 ^ (w - 1) then n else (n : Int) - 2 ^ w

end Sys2Proof.Machine
end

