-- ==== Sys2Proof/Certificates/Slice0/Obligations.lean ====
section
/-! DEFINITION. The statements for the provers. Each docstring names the rules of spec/ it rests on. A statement whose conclusion is an equation
`exec i s = .next …` says the instruction's result, its frame (every field not named is as before) and that it completes. -/

open Sys2Proof Sys2Proof.Machine

/-! Encoding. -/

/-- A received wire row decodes from its own frame (30_encoding.md R60, R61, R79): every payload byte, address and type at every value. -/
def Obligations.WireFramesDecodeBack : Prop :=
  ∀ (i : Instr) (now : Time) (bytes : List Byte),
    i.wf = true → encode i = .rxFrame now bytes → decode (.rxFrame now bytes) = .ok i

/-- A command decodes from its own line (30_encoding.md R76). -/
def Obligations.CommandLinesDecodeBack : Prop :=
  ∀ (i : Instr) (now : Time) (line : List Byte),
    i.wf = true → encode i = .line now line → decode (.line now line) = .ok i

/-- Every other operation decodes from its own invocation. The call records are the model's choice (log 2). -/
def Obligations.CallRecordsDecodeBack : Prop :=
  ∀ i : Instr, i.wf = true → (∀ now bytes, encode i ≠ .rxFrame now bytes) → (∀ now line, encode i ≠ .line now line) →
    decode (encode i) = .ok i

/-- The bytes of a received frame that decodes are the encoding of what they decode to: no frame is read as another's row (30_encoding.md R72,
R79). -/
def Obligations.DecodedFramesEncodeBack : Prop :=
  ∀ (now : Time) (bytes : List Byte) (i : Instr),
    decode (.rxFrame now bytes) = .ok i → ∃ now', encode i = .rxFrame now' bytes

/-- What decodes is well formed. For frames the payload sizes are 30_encoding.md R61, R71 and R79's; that a STEP has at most 32 bytes is 42_link_engine.md
R115's (log 31). The other ranges, for call records (logs 2, 33) and for the numbers of command lines (R76; log 16), are the model's choices. -/
def Obligations.DecodedOperationsAreWellFormed : Prop :=
  ∀ (e : Encoded) (i : Instr), decode e = .ok i → i.wf = true

/-- A few invocations written out from the spec's encodings (95_test_vectors.md 2.4, 30_encoding.md R76). The type code 1E is presumed (log 21), the
CRC bytes 8D, FE and EF rest on the presumed bit loop (log 22), and that the header C8 18 16 as an order is TX_RC is the model's reading (log 15). -/
def Obligations.WrittenOutWordsDecode : Prop :=
  decode (.rxFrame 0 [0xC8, 0x08, 0x1E, 0x00, 0x00, 0x06, 0xD6, 0x0D, 0xAC, 0x8D]) = .ok (.att [0x00, 0x00, 0x06, 0xD6, 0x0D, 0xAC]) ∧
  decode (.rxFrame 0 [0xC8, 0x04, 0x7F, 0x01, 0x02, 0xFE]) = .ok (.unknown 0x7F [0x01, 0x02]) ∧
  decode (.rxFrame 9 ([0xC8, 0x18, 0x16] ++ List.replicate 22 0 ++ [0xEF])) = .ok (.rc (List.replicate 22 0) 9) ∧
  decode (.rxFrame 0 ([0xEE, 0x18, 0x16] ++ List.replicate 22 0 ++ [0xEF])) = .ok (.foreignAddr 0xEE 0x16 (List.replicate 22 0)) ∧
  decode (.txFrame [0xC8, 0x18, 0x16]) = .ok .txRc ∧
  decode (.line 0 [0x73, 0x65, 0x74, 0x4D, 0x6F, 0x64, 0x65, 0x20, 0x6D, 0x61, 0x6E, 0x75, 0x61, 0x6C]) = .ok (.setModeText .manual)

/-- DISPATCH (43_dispatch.md R135) runs the wire row that the frame selects (30_encoding.md R79), and completes; that row's own statement says with
what. -/
def Obligations.DispatchRunsTheSelectedRow : Prop :=
  ∀ (addr ty : Byte) (p : List Byte) (now : Time) (s : State),
    exec (.dispatch addr ty p now) s = exec (selectRow addr ty p now) s ∧ ∃ t, exec (.dispatch addr ty p now) s = .next t

/-- The type switch for any pairwise different choice of the five type codes (30_encoding.md R64, 92_eei_decisions.md D10; 43_dispatch.md R135). -/
def Obligations.TypeSwitchForAnyTypeCodes : Prop :=
  ∀ (m : Config.TypeMap) (p : List Byte) (now : Time) (s : State), m.distinct = true → s.running →
    exec (.rc p now) s = .next (Ops.dispatchBy m 0xC8 0x16 p now s) ∧
    exec (.gps p) s = .next (Ops.dispatchBy m 0xC8 m.gps p now s) ∧
    exec (.batt p) s = .next (Ops.dispatchBy m 0xC8 m.batt p now s) ∧
    exec (.linkstat p) s = .next (Ops.dispatchBy m 0xC8 m.linkstat p now s) ∧
    exec (.att p) s = .next (Ops.dispatchBy m 0xC8 m.att p now s) ∧
    exec (.fmode p) s = .next (Ops.dispatchBy m 0xC8 m.fmode p now s) ∧
    (∀ ty, ty ≠ 0x16 → ty ≠ m.gps → ty ≠ m.batt → ty ≠ m.linkstat → ty ≠ m.att → ty ≠ m.fmode →
      exec (.unknown ty p) s = .next (Ops.dispatchBy m 0xC8 ty p now s)) ∧
    (∀ addr ty, addr ≠ 0xC8 → exec (.foreignAddr addr ty p) s = .next (Ops.dispatchBy m addr ty p now s))

/-! The step and its invariants. -/

/-- The next step runs the operation that the scheduled invocation decodes to, in the state less that entry, if the operation's agent is between
operations or the block is stopped; an invalid command is dropped (46_control_inputs.md R189), with its label in a running block; a line whose lexical
form the spec leaves open (91 N9) is one or the other; with nothing scheduled nothing happens (70_reset_and_hazards.md R233). The agenda is the
model's choice (log 1), so are the free choice for an open line (log 16) and the missing label in a stopped block (log 11). -/
def Obligations.StepRunsTheDecodedOperation : Prop :=
  (∀ (s : State) (e : Encoded) (rest : List Entry) (i : Instr),
    s.agenda = .invoke e :: rest → decode e = .ok i →
    s.stopped = true ∨ ((i.engine = some .rx → s.rxPlan = []) ∧ (i.engine = some .tx → s.txPlan = [])) →
      step s = exec i { s with agenda := rest }) ∧
  (∀ (s : State) (now : Time) (line : List Byte) (rest : List Entry),
    s.agenda = .invoke (.line now line) :: rest → decode (.line now line) = .error .invalidCommand →
      (s.running → step s = .next { s with agenda := rest, events := s.events ++ [.cmdReject] }) ∧
      (s.stopped = true → step s = .next { s with agenda := rest })) ∧
  (∀ (s : State) (now : Time) (line : List Byte) (rest : List Entry) (i : Instr),
    s.agenda = .invoke (.line now line) :: rest → decode (.line now line) = .error (.openLexicalForm i) → s.running → s.txPlan = [] →
      step s = exec i { s with agenda := rest, freeCount := s.freeCount + 1 } ∨
      step s = .next { s with agenda := rest, freeCount := s.freeCount + 1, events := s.events ++ [.cmdReject] }) ∧
  (∀ s : State, s.agenda = [] → step s = .next s)

/-- Every step keeps the invariant (10_state.md R14, R23, R30; 42_link_engine.md R124): the buffer in its canonical form, flight mode within 60 bytes,
only sendable frames in flight and on the line, and strobes that alternate and agree with `link_up`. -/
def Obligations.EveryStepKeepsTheBlockSound : Prop :=
  ∀ s t : State, Inv s → step s = .next t → Inv t

/-- The invariant holds after reset, whatever the two start-up parameters. -/
def Obligations.ResetStateIsSound : Prop :=
  ∀ (m : Mode) (v : Bool), Inv (State.resetWith m v)

/-- What reset leaves (70_reset_and_hazards.md R230), for every choice of `MODE_RESET` and `IGNORE_TEL_RESET`; this hardware starts with the flag at
0. Several values are the spec's own decisions (92_eei_decisions.md D3, D5, D6, D18; log 24). -/
def Obligations.ResetLeavesTheTableOfValues : Prop :=
  (∀ (m : Mode) (v : Bool), (State.resetWith m v).mode = m ∧ (State.resetWith m v).ignoreTel = v ∧
    (State.resetWith m v).rxLen = 0 ∧ (State.resetWith m v).lastReceiveMs = 0 ∧ (State.resetWith m v).lastChannelsMs = 0 ∧
    (State.resetWith m v).linkUp = false ∧ (∀ i : Fin 16, ((State.resetWith m v).ch[i]).toInt = 1500) ∧
    (State.resetWith m v).gps = ⟨0, 0, 0, 0, 0, 0, false⟩ ∧ (State.resetWith m v).bat = ⟨0, 0, 0, 0, false⟩ ∧
    (State.resetWith m v).att = ⟨0, 0, 0, false⟩ ∧ (∀ i : Fin 10, (State.resetWith m v).linkstat.bytes[i] = 0) ∧
    (State.resetWith m v).linkstat.valid = false ∧ (State.resetWith m v).fmLen = 0 ∧ (State.resetWith m v).fm.valid = false ∧
    (State.resetWith m v).lastTxMs = 0 ∧ (State.resetWith m v).txInflight = .none ∧ (State.resetWith m v).stopped = false ∧
    (State.resetWith m v).events = [] ∧ (State.resetWith m v).txLine = []) ∧
  ∃ m, State.reset = State.resetWith m false

/-- Only reset clears `stopped` or a valid bit (10_state.md R21, R26; 70 R230), and strobes and transmitted frames are never taken back. -/
def Obligations.StepsNeverClearStickyState : Prop :=
  ∀ s t : State, step s = .next t →
    (s.stopped = true → t.stopped = true) ∧ (s.gps.valid = true → t.gps.valid = true) ∧ (s.bat.valid = true → t.bat.valid = true) ∧
    (s.att.valid = true → t.att.valid = true) ∧ (s.linkstat.valid = true → t.linkstat.valid = true) ∧
    (s.fm.valid = true → t.fm.valid = true) ∧ s.events <+: t.events ∧ s.txLine <+: t.txLine

/-- No operation faults (60_exceptions.md R200, R212, R217); a refusal comes only from a case row whose case is not selected (log 13) or from a send
sub-step out of the agent's sequence (log 14), and there it does come. -/
def Obligations.NoOperationFaults : Prop :=
  (∀ (i : Instr) (s : State),
    (∃ t, exec i s = .next t) ∨
    (exec i s = .refused .caseNotSelected ∧
      ((i = .waitHdr ∧ frameCheck s.rxBuf ≠ .waitHdr) ∨ (i = .resync ∧ frameCheck s.rxBuf ≠ .resync) ∨
       (i = .waitBody ∧ ∀ L, frameCheck s.rxBuf ≠ .waitBody L) ∨ ((∃ now, i = .crcOk now) ∧ ∀ L, frameCheck s.rxBuf ≠ .crcOk L) ∨
       (i = .crcBad ∧ ∀ L, frameCheck s.rxBuf ≠ .crcBad L))) ∨
    (exec i s = .refused .noFrameInFlight ∧
      ((i = .sendGate ∧ ∀ f, s.txInflight ≠ .built f) ∨ (i = .sendEmit ∧ ∀ f, s.txInflight ≠ .passed f)))) ∧
  (∀ s : State,
    (frameCheck s.rxBuf ≠ .waitHdr → exec .waitHdr s = .refused .caseNotSelected) ∧
    (frameCheck s.rxBuf ≠ .resync → exec .resync s = .refused .caseNotSelected) ∧
    ((∀ L, frameCheck s.rxBuf ≠ .waitBody L) → exec .waitBody s = .refused .caseNotSelected) ∧
    (∀ now, (∀ L, frameCheck s.rxBuf ≠ .crcOk L) → exec (.crcOk now) s = .refused .caseNotSelected) ∧
    ((∀ L, frameCheck s.rxBuf ≠ .crcBad L) → exec .crcBad s = .refused .caseNotSelected) ∧
    ((∀ f, s.txInflight ≠ .built f) → exec .sendGate s = .refused .noFrameInFlight) ∧
    ((∀ f, s.txInflight ≠ .passed f) → exec .sendEmit s = .refused .noFrameInFlight))

/-- Each agent writes only what is its own (00_scope.md R5, 60_exceptions.md R214): the RX engine nothing of the send side or the host's flags, every
other operation nothing of the receive side; only the TX scheduler writes `last_tx_ms`, `tx_inflight` and the line; and the host's register accesses
write neither side's. -/
def Obligations.AgentsWriteOnlyTheirOwnState : Prop :=
  (∀ (i : Instr) (s t : State), i.engine = some .rx → exec i s = .next t → sendSideKept s t) ∧
  (∀ (i : Instr) (s t : State), i.engine ≠ some .rx → exec i s = .next t → receiveSideKept s t) ∧
  (∀ (i : Instr) (s t : State), i.engine ≠ some .tx → exec i s = .next t →
    t.lastTxMs = s.lastTxMs ∧ t.txInflight = s.txInflight ∧ t.txLine = s.txLine ∧ t.emitAnswers = s.emitAnswers) ∧
  (∀ (s t : State) (e : Entry) (rest : List Entry), s.agenda = e :: rest →
    (e = .recordCopy ∨ (∃ n, e = .regRead n) ∨ (∃ g, e = .groupRead g) ∨ ∃ n v now, e = .regWrite n v now) → step s = .next t →
    receiveSideKept s t ∧ t.lastTxMs = s.lastTxMs ∧ t.txInflight = s.txInflight ∧ t.txLine = s.txLine ∧ t.emitAnswers = s.emitAnswers)

/-- The link state machine over all operations (42_link_engine.md R124): an operation that raises the link is an RX one that accepted an RC-channels
frame, whose strobes it leaves in the history (an RC frame short of 22 bytes raises nothing, decision D9); only LDN, alone or in a STEP, lowers the
link, with its strobe, and then more than 120 000 ms have passed since the last byte. -/
def Obligations.OnlyRcFramesAndSilenceMoveTheLink : Prop :=
  ∀ (i : Instr) (s t : State), exec i s = .next t → ∃ es, t.events = s.events ++ es ∧
    (s.linkUp = false → t.linkUp = true → .onLinkUp ∈ es ∧ .onChannels ∈ es ∧
      ((∃ p now, i = .rc p now ∧ 22 ≤ p.length) ∨ (∃ p now, i = .dispatch 0xC8 0x16 p now ∧ 22 ≤ p.length) ∨
       (((∃ now, i = .consume now) ∨ (∃ now, i = .crcOk now) ∨ (∃ now, i = .tmo now) ∨ ∃ rx fin now, i = .step rx fin now) ∧ .frameOk ∈ es))) ∧
    (s.linkUp = true → t.linkUp = false → .onLinkDown ∈ es ∧
      ∃ now, (i = .ldn now ∨ ∃ rx fin, i = .step rx fin now) ∧ 120000 < (now - t.lastReceiveMs).toNat)

/-- The atomic grain (20_memory.md R52, decision D25; the entries `start` and `resume` are the model's choice, log 17). A composite operation that an
idle agent starts and takes turn by turn, with no step of another agent between, ends where the operation whole ends. Each turn is the first of the
agent's remaining steps. An agent scheduled to begin an operation in the middle of another takes its remaining turns first (log 18). What the steps
are: SEND and FORCE_SEND are the stamp, SEND_BUILD, SEND_GATE and SEND_EMIT (45_send_scheduler.md R170), TICK its test with the stamp and then those
three, STEP one RXB a byte, the passes of CONSUME, TMO and LDN; RXB, LDN, SEND_BUILD, SEND_GATE and SEND_EMIT are one step each, as is one pass of
CONSUME with its dispatch and one `shift(1)` of TMO. That TMO's test with its label, the label of a read error and a JOY_AXIS input are steps of their
own is not said by R52 (log 17). -/
def Obligations.AtomicStepsMakeTheOperation : Prop :=
  (∀ (i : Instr) (a : Engine) (ts : List Task) (s : State), Agents.stepsOf i = some (a, ts) → s.running →
    ∃ n t, exec i s = .next t ∧ ∀ m, n ≤ m → Agents.runTasks m ts s = t) ∧
  (∀ (i : Instr) (e : Encoded) (a : Engine) (ts : List Task) (s : State),
    decode e = .ok i → Agents.stepsOf i = some (a, ts) → s.running → Agents.planOf a s = [] →
    ∃ n t, exec i s = .next t ∧ ∀ m rest, n ≤ m →
      stepN (m + 1) { s with agenda := .start e :: (List.replicate m (.resume a) ++ rest) } = .next { t with agenda := rest }) ∧
  (∀ (a : Engine) (t : Task) (ts : List Task) (s : State) (rest : List Entry),
    s.running → s.agenda = .resume a :: rest → Agents.planOf a s = t :: ts →
    ∃ u, step s = .next u ∧ u = Agents.setPlan a ((Agents.runTask t { s with agenda := rest }).2 ++ ts) (Agents.runTask t { s with agenda := rest }).1) ∧
  (∀ (a : Engine) (s : State) (rest : List Entry), s.agenda = .resume a :: rest → Agents.planOf a s = [] → step s = .next { s with agenda := rest }) ∧
  (∀ (i : Instr) (e : Encoded) (a : Engine) (s : State), decode e = .ok i → i.engine = some a → s.running →
    ∃ n u, Agents.planOf a u = [] ∧ (∀ rest, step { s with agenda := .invoke e :: rest } = exec i { u with agenda := rest }) ∧
      ∀ m rest, n ≤ m → stepN m { s with agenda := List.replicate m (.resume a) ++ rest } = .next { u with agenda := rest }) ∧
  (∀ (now : Time) (i : Instr), i = .send now ∨ i = .forceSend now ∨ i = .sendChannels now →
    Agents.stepsOf i = some (.tx, [.stamp now, .build, .gate, .emit])) ∧
  (∀ now, Agents.stepsOf (.tick now) = some (.tx, [.tick now]) ∧ Agents.stepsOf (.consume now) = some (.rx, [.consume now]) ∧
    Agents.stepsOf (.tmo now) = some (.rx, [.tmoTest now])) ∧
  (∀ rx fin now, Agents.stepsOf (.step rx fin now) = some (.rx,
    rx.map (fun q => .rxb q.1 q.2) ++ (if fin = .error then [.readErr] else []) ++ [.consume now, .tmoTest now, .ldn now])) ∧
  (∀ inputs now, Agents.stepsOf (.schedIter inputs now) = some (.tx, inputs.map (fun c => .control c now) ++ [.tick now])) ∧
  (∀ pairs : List (Int × Int), ∃ now, Agents.stepsOf (.setChannels pairs) = some (.tx,
    (pairs.filter fun q => 1 ≤ q.1 ∧ q.1 ≤ 16 ∧ 1000 ≤ q.2 ∧ q.2 ≤ 2000).map fun q => .control (.chSet q.1 (BitVec.ofInt 32 q.2)) now)) ∧
  ∀ (s : State) (now : Time), s.running →
    (∀ b, stepIsOperation (.rxb b now) (.rxb b now) [] s) ∧ stepIsOperation (.ldn now) (.ldn now) [] s ∧ stepIsOperation .build .sendBuild [] s ∧
    (∀ f, s.txInflight = .built f → stepIsOperation .gate .sendGate [] s) ∧
    ((∀ f, s.txInflight ≠ .built f) → Agents.runTask .gate s = (s, [])) ∧
    (∀ f, s.txInflight = .passed f → stepIsOperation .emit .sendEmit [] s) ∧
    ((∀ f, s.txInflight ≠ .passed f) → Agents.runTask .emit s = (s, [])) ∧
    (frameCheck s.rxBuf = .waitHdr → stepIsOperation (.consume now) .waitHdr [] s) ∧
    (frameCheck s.rxBuf = .resync → stepIsOperation (.consume now) .resync [.consume now] s) ∧
    (∀ L, frameCheck s.rxBuf = .waitBody L → stepIsOperation (.consume now) .waitBody [] s) ∧
    (∀ L, frameCheck s.rxBuf = .crcOk L → stepIsOperation (.consume now) (.crcOk now) [.consume now] s) ∧
    (∀ L, frameCheck s.rxBuf = .crcBad L → stepIsOperation (.consume now) .crcBad [.consume now] s) ∧
    (0 < s.rxLen → 100 < (now - s.lastReceiveMs).toNat →
      Agents.runTask (.tmoTest now) s = ({ s with events := s.events ++ [.truncated] }, [.tmoShift now])) ∧
    (s.rxLen = 0 ∨ (now - s.lastReceiveMs).toNat ≤ 100 → Agents.runTask (.tmoTest now) s = (s, [])) ∧
    (0 < s.rxLen → Agents.runTask (.tmoShift now) s = ({ s with rxBuf := s.rxBuf.drop 1 }, [.consume now, .tmoShift now])) ∧
    (s.rxLen = 0 → Agents.runTask (.tmoShift now) s = (s, [])) ∧
    (10 ≤ (now - s.lastTxMs).toNat → Agents.runTask (.tick now) s = ({ s with lastTxMs := now }, [.build, .gate, .emit])) ∧
    ((now - s.lastTxMs).toNat < 10 → Agents.runTask (.tick now) s = (s, [])) ∧
    Agents.runTask (.stamp now) s = ({ s with lastTxMs := now }, []) ∧
    Agents.runTask (.control .forceSend now) s = ({ s with lastTxMs := now }, [.build, .gate, .emit]) ∧
    (∀ c, c ≠ .forceSend → stepIsOperation (.control c now) (controlOp now c) [] s) ∧
    Agents.runTask .readErr s = ({ s with events := s.events ++ [.transportReadErr] }, [])

/-! Received frames. -/

/-- RC (43_dispatch.md R136): all sixteen channels are the clamped decoded codes of the payload's bit stream (30_encoding.md R65, 41 R101), the link
is up, `on_link_up` on the rising edge only, then `on_channels`. The order of the two strobes is the spec's own decision (92_eei_decisions.md D14),
that bytes past the 22nd are ignored is its decision D9, and the bit order of the payload is presumed (log 36). -/
def Obligations.RcFrameWritesChannelsAndLink : Prop :=
  ∀ (p : List Byte) (now : Time) (s : State), 22 ≤ p.length → s.running →
    ∃ cs : Vector Chan 16,
      exec (.rc p now) s = .next { s with ch := cs, linkUp := true, lastChannelsMs := now,
                                          events := s.events ++ ((if s.linkUp then [] else [.onLinkUp]) ++ [.onChannels]) } ∧
      ∀ i : Fin 16, (cs[i]).toInt =
        code2us ((∑ k ∈ Finset.range 22, (p.getD k 0).toNat * 2 ^ (8 * k)) / 2 ^ (11 * (i : Nat)) % 2048 : Nat)

/-- GPS (43_dispatch.md R137, 30_encoding.md R66). The widths of the last four fields are presumed (decision D11, log 23), and that bytes past the
15th are ignored is the spec's own decision D9. -/
def Obligations.GpsFrameWritesItsGroup : Prop :=
  ∀ (p : List Byte) (s : State), 15 ≤ p.length → s.running →
    ∃ g : Gps, exec (.gps p) s = .next { s with gps := g } ∧
      g.lat.toInt = signed 32 (bigEndian p 0 4) ∧ g.lon.toInt = signed 32 (bigEndian p 4 4) ∧ g.speed.toNat = bigEndian p 8 2 ∧
      g.heading.toNat = bigEndian p 10 2 ∧ g.alt.toNat = bigEndian p 12 2 ∧ g.sats.toNat = bigEndian p 14 1 ∧ g.valid = true

/-- BATT (43_dispatch.md R138, 30_encoding.md R67). That bytes past the 8th are ignored is the spec's own decision (92_eei_decisions.md D9). -/
def Obligations.BatteryFrameWritesItsGroup : Prop :=
  ∀ (p : List Byte) (s : State), 8 ≤ p.length → s.running →
    ∃ g : Battery, exec (.batt p) s = .next { s with bat := g } ∧
      g.voltage.toNat = bigEndian p 0 2 ∧ g.current.toNat = bigEndian p 2 2 ∧ g.capacity.toNat = bigEndian p 4 3 ∧
      g.remaining.toNat = bigEndian p 7 1 ∧ g.valid = true

/-- ATT (43_dispatch.md R140, 30_encoding.md R68): pitch, roll, yaw in wire order, signed. The order is firmware-specific (93 U1) and the signed yaw
settles conflict C3 (log 38); that bytes past the 6th are ignored is the spec's own decision D9. -/
def Obligations.AttitudeFrameWritesItsGroup : Prop :=
  ∀ (p : List Byte) (s : State), 6 ≤ p.length → s.running →
    ∃ g : Attitude, exec (.att p) s = .next { s with att := g } ∧
      g.pitchRaw.toInt = signed 16 (bigEndian p 0 2) ∧ g.rollRaw.toInt = signed 16 (bigEndian p 2 2) ∧
      g.yawRaw.toInt = signed 16 (bigEndian p 4 2) ∧ g.valid = true

/-- LINKSTAT (43_dispatch.md R139) copies ten bytes (that the bytes past them are ignored is the spec's own decision D9); FMODE (R142) copies the
whole payload into a register pair of the spec's own (92_eei_decisions.md D13). -/
def Obligations.VerbatimFramesWriteTheirGroups : Prop :=
  (∀ (p : List Byte) (s : State), 10 ≤ p.length → s.running →
    ∃ g : LinkStat, exec (.linkstat p) s = .next { s with linkstat := g } ∧ g.bytes.toList = p.take 10 ∧ g.valid = true) ∧
  (∀ (p : List Byte) (s : State), 1 ≤ p.length → s.running → exec (.fmode p) s = .next { s with fm := ⟨p, true⟩ })

/-- Frames that are consumed and ignored: a short payload of any typed row (43_dispatch.md R144), an unknown type (R143), a foreign address (R135).
Nothing changes but the label in the history (60_exceptions.md R201). That a short payload is dropped is the spec's own decision (92_eei_decisions.md
D9). -/
def Obligations.DroppedFramesChangeNothing : Prop :=
  ∀ (p : List Byte) (s : State), s.running →
    (∀ ty, exec (.shortPayload ty p) s = .next { s with events := s.events ++ [.shortPayload] }) ∧
    (∀ ty, exec (.unknown ty p) s = .next { s with events := s.events ++ [.unknownType] }) ∧
    (∀ addr ty, exec (.foreignAddr addr ty p) s = .next { s with events := s.events ++ [.foreignAddr] }) ∧
    (∀ now, p.length < 22 → exec (.rc p now) s = .next { s with events := s.events ++ [.shortPayload] }) ∧
    (p.length < 15 → exec (.gps p) s = .next { s with events := s.events ++ [.shortPayload] }) ∧
    (p.length < 8 → exec (.batt p) s = .next { s with events := s.events ++ [.shortPayload] }) ∧
    (p.length < 10 → exec (.linkstat p) s = .next { s with events := s.events ++ [.shortPayload] }) ∧
    (p.length < 6 → exec (.att p) s = .next { s with events := s.events ++ [.shortPayload] }) ∧
    (p.length < 1 → exec (.fmode p) s = .next { s with events := s.events ++ [.shortPayload] })

/-! Pure functions. -/

/-- Every FUNC row answers its value and changes nothing else, in a stopped block too (40_frame_codec.md "Pure functions, no state";
41_channel_codec.md R100, R101 for the two decoders, R106, R107 for the two channel functions over PACK, US2CODE, UNPACK and CODE2US). The result
field is the model's choice (log 4); that FRAME_ENCODE out of its domain answers `noFrame` is too (log 35). -/
def Obligations.FunctionsAnswerAndChangeNothing : Prop :=
  ∀ s : State,
    (∀ bs, exec (.crc8 bs) s = .next { s with result := .byte (crc8 bs) }) ∧
    (∀ buf len, exec (.frameCheck buf len) s = .next { s with result := .verdict (frameCheck (buf.take len)) }) ∧
    (∀ addr ty p, exec (.frameEncode addr ty p) s =
      .next { s with result := if 1 ≤ p.length ∧ p.length ≤ 60 then .bytes (frameBytes addr ty p) else .noFrame }) ∧
    (∀ code, exec (.code2usRaw code) s =
      .next { s with result := .int ((2 * (1000 * 1601 + (code - 191) * 1000) + 1601) / 3202) }) ∧
    (∀ code, exec (.code2us code) s =
      .next { s with result := .int (clamp ((2 * (1000 * 1601 + ((code.toNat : Int) - 191) * 1000) + 1601) / 3202) 1000 2000) }) ∧
    (∀ us, exec (.us2code us) s = .next { s with result := .int (us2code us.toInt) }) ∧
    (∀ codes, exec (.pack codes) s = .next { s with result := .bytes (pack (codes.toList.map BitVec.toInt)) }) ∧
    (∀ p, exec (.unpack p) s = .next { s with result := .codes (unpack p) }) ∧
    (∀ us, exec (.packChannels us) s = .next { s with result := .bytes (pack (us.toList.map fun u => us2code u.toInt)) }) ∧
    (∀ p, ∃ cs : Vector Chan 16, exec (.unpackChannels p) s = .next { s with result := .channels cs } ∧
      ∀ i : Fin 16, (cs[i]).toInt = code2us ((unpack p).getD i 0)) ∧
    exec .attDegrees s = .next { s with result := .degrees (attDegrees s.att.pitchRaw s.att.rollRaw s.att.yawRaw) }

/-- CRC8 (40_frame_codec.md R90, R91): its value for every single byte, the table form, which fixes it for every sequence, and the residue 0 of data
with its CRC appended. The bit loop behind the table is presumed (log 22). -/
def Obligations.CrcTableFormAndResidue : Prop :=
  crc8 [] = 0 ∧ (∀ b : Byte, crcTable[b.toNat]? = some (crc8 [b])) ∧
  (∀ (bs : List Byte) (b : Byte), crc8 (bs ++ [b]) = crc8 [crc8 bs ^^^ b]) ∧
  (∀ bs : List Byte, crc8 (bs ++ [crc8 bs]) = 0) ∧ (∀ n, crc8 (List.replicate n 0) = 0)

/-- Flipping any single bit of type, payload or CRC of an accepted candidate makes the check reject it (40_frame_codec.md R94). -/
def Obligations.SingleBitFlipsAreRejected : Prop :=
  ∀ (buf : List Byte) (L j k : Nat), frameCheck buf = .crcOk L → 2 ≤ j → j ≤ L + 1 → k < 8 →
    frameCheck (buf.set j (byteAt buf j ^^^ (1#8 <<< k))) = .crcBad L

/-- The encoder's frame (40_frame_codec.md R93): its bytes, and that the check accepts it whatever follows it in the buffer. -/
def Obligations.EncodedFramesAreAccepted : Prop :=
  ∀ (addr ty : Byte) (p rest : List Byte) (s : State), 1 ≤ p.length → p.length ≤ 60 →
    ∃ f, exec (.frameEncode addr ty p) s = .next { s with result := .bytes f } ∧
      f = [addr, BitVec.ofNat 8 (p.length + 2), ty] ++ p ++ [crc8 (ty :: p)] ∧ f.length = p.length + 4 ∧
      frameCheck (f ++ rest) = .crcOk (p.length + 2)

/-- FRAME_CHECK (40_frame_codec.md R92): its five verdicts in the order of the tests, the CRC over bytes 2 to L. -/
def Obligations.FrameCheckVerdicts : Prop :=
  ∀ (buf : List Byte) (len L : Nat) (s : State), len ≤ buf.length → L = (buf.getD 1 0).toNat →
    ∃ v, exec (.frameCheck buf len) s = .next { s with result := .verdict v } ∧
      (len < 2 → v = .waitHdr) ∧
      (2 ≤ len → (L < 3 ∨ 62 < L) → v = .resync) ∧
      (2 ≤ len → 3 ≤ L → L ≤ 62 → len < L + 2 → v = .waitBody L) ∧
      (3 ≤ L → L ≤ 62 → L + 2 ≤ len → crc8 ((List.range (L - 1)).map fun k => buf.getD (2 + k) 0) = buf.getD (L + 1) 0 → v = .crcOk L) ∧
      (3 ≤ L → L ≤ 62 → L + 2 ≤ len → crc8 ((List.range (L - 1)).map fun k => buf.getD (2 + k) 0) ≠ buf.getD (L + 1) 0 → v = .crcBad L)

/-- The range of the store (41_channel_codec.md R102, which the spec derives itself): a decoded channel is in range; so is a channel an accepted RC
frame writes; and only CH_SET, alone or as a control input, can put a value outside the range into the store. -/
def Obligations.OnlyChSetLeavesTheRange : Prop :=
  (∀ code : BitVec 11, 1000 ≤ code2us code.toNat ∧ code2us code.toNat ≤ 2000) ∧
  (∀ (p : List Byte) (now : Time) (s t : State), 22 ≤ p.length → s.running → exec (.rc p now) s = .next t →
    ∀ j : Fin 16, inRange t.ch[j]) ∧
  (∀ (i : Instr) (s t : State) (j : Fin 16), (∀ k us, i ≠ .chSet k us) →
    (∀ inputs now, i = .schedIter inputs now → ∀ k us, Control.chSet k us ∉ inputs) →
    exec i s = .next t → inRange s.ch[j] → inRange t.ch[j])

/-- US2CODE (41_channel_codec.md R103): its range, that it clamps first, that the fidelity adjustment never fires, and that it is non-decreasing
(R109). -/
def Obligations.EncodedCodes : Prop :=
  (∀ us : Int, 191 ≤ us2code us ∧ us2code us ≤ 1792) ∧
  (∀ us : Int, us2code us = us2code (clamp us 1000 2000)) ∧
  (∀ u : Int, 1000 ≤ u → u ≤ 2000 → us2code u = (2 * (191000 + (u - 1000) * 1601) + 1000) / 2000) ∧
  (∀ u v : Int, u ≤ v → us2code u ≤ us2code v)

/-- The round trip (41_channel_codec.md R108, which the spec derives itself) of every channel whatever the other fifteen hold, and exactly which codes
survive the reverse trip. -/
def Obligations.ChannelRoundTrip : Prop :=
  (∀ u : Int, 1000 ≤ u → u ≤ 2000 → code2us (us2code u) = u) ∧
  (∀ (us : Vector Chan 16) (i : Fin 16), ((unpackChannels (packChannels us))[i]).toInt = clamp (us[i]).toInt 1000 2000) ∧
  (∀ c : Int, us2code (code2us c) = c ↔ ∃ u, 1000 ≤ u ∧ u ≤ 2000 ∧ c = us2code u) ∧
  us2code (code2us 192) = 193

/-- UNPACK (41_channel_codec.md R105) reads code `i` at stream bit `11 i`, and PACK and UNPACK are inverse bijections, which the spec derives itself.
The bit order is presumed (log 36). -/
def Obligations.PackAndUnpackAreInverse : Prop :=
  (∀ (p : List Byte) (i : Fin 16), p.length = 22 → (unpack p)[(i : Nat)]? =
    some (((∑ k ∈ Finset.range 22, (p.getD k 0).toNat * 2 ^ (8 * k)) / 2 ^ (11 * (i : Nat)) % 2048 : Nat) : Int)) ∧
  (∀ codes : List Int, codes.length = 16 → unpack (pack codes) = codes.map (· % 2048)) ∧
  (∀ p : List Byte, p.length = 22 → pack (unpack p) = p)

/-- PACK's lanes (41_channel_codec.md R104, 20_memory.md R47): bit `b` of code `i` is stream bit `11 i + b`, which is bit `(11 i + b) mod 8` of
payload byte `(11 i + b) div 8`; lanes do not interact. This bit order is presumed (93 G3, log 36). -/
def Obligations.PackLanes : Prop :=
  ∀ (codes : Vector Chan 16) (i : Fin 16) (b : Fin 11),
    (byteAt (pack (codes.toList.map BitVec.toInt)) ((11 * (i : Nat) + b) / 8)).getLsbD ((11 * (i : Nat) + b) % 8) = (codes[i]).getLsbD b

/-- ATT_DEGREES (43_dispatch.md R141): exact rationals (the spec's own decision D12), and yaw always in [0, 360). -/
def Obligations.AttitudeInDegrees : Prop :=
  ∀ s : State, ∃ d : Degrees, exec .attDegrees s = .next { s with result := .degrees d } ∧
    d.pitch = (s.att.pitchRaw.toInt : ℚ) / 175 ∧ d.roll = (s.att.rollRaw.toInt : ℚ) / 175 ∧
    (0 ≤ s.att.yawRaw.toInt → d.yaw = (s.att.yawRaw.toInt : ℚ) / 175) ∧
    (s.att.yawRaw.toInt < 0 → d.yaw = (s.att.yawRaw.toInt : ℚ) / 175 + 360) ∧ 0 ≤ d.yaw ∧ d.yaw < 360

/-! The RX engine. -/

/-- RXB (42_link_engine.md R116): a received byte is stamped, and kept unless the buffer is full, which it then empties. That a byte without room
empties the buffer and is lost itself is the spec's own decision (92_eei_decisions.md D7; log 25). -/
def Obligations.ReceivedByteIsStampedAndKept : Prop :=
  ∀ (b : Byte) (t : Time) (s : State), s.running →
    (s.rxBuf.length = 64 →
      exec (.rxb b t) s = .next { s with lastReceiveMs := t, rxBuf := [], events := s.events ++ [.rxOverflow] }) ∧
    (s.rxBuf.length ≠ 64 → exec (.rxb b t) s = .next { s with lastReceiveMs := t, rxBuf := s.rxBuf ++ [b] })

/-- CONSUME by the verdict at the front of the buffer (42_link_engine.md R117 to R122): it waits, or it drops a byte or a bad frame and goes on, or it
dispatches a good frame, drops it and goes on. -/
def Obligations.ConsumeActsOnTheFrontCandidate : Prop :=
  ∀ (now : Time) (s : State) (L : Nat), s.running → L = (s.rxBuf.getD 1 0).toNat →
    (s.rxBuf.length < 2 → exec (.consume now) s = .next s) ∧
    (2 ≤ s.rxBuf.length → (L < 3 ∨ 62 < L) →
      exec (.consume now) s = exec (.consume now) { s with rxBuf := s.rxBuf.drop 1, events := s.events ++ [.lenRange] }) ∧
    (2 ≤ s.rxBuf.length → 3 ≤ L → L ≤ 62 → s.rxBuf.length < L + 2 → exec (.consume now) s = .next s) ∧
    (3 ≤ L → L ≤ 62 → L + 2 ≤ s.rxBuf.length → crc8 ((s.rxBuf.drop 2).take (L - 1)) ≠ s.rxBuf.getD (L + 1) 0 →
      exec (.consume now) s =
        exec (.consume now) { s with rxBuf := s.rxBuf.drop (L + 2), events := s.events ++ [.crcMismatch] }) ∧
    (3 ≤ L → L ≤ 62 → L + 2 ≤ s.rxBuf.length → crc8 ((s.rxBuf.drop 2).take (L - 1)) = s.rxBuf.getD (L + 1) 0 →
      ∃ t, exec (.dispatch (s.rxBuf.getD 0 0) (s.rxBuf.getD 2 0) ((s.rxBuf.drop 3).take (L - 2)) now)
              { s with events := s.events ++ [.frameOk] } = .next t ∧
        exec (.consume now) s = exec (.consume now) { t with rxBuf := s.rxBuf.drop (L + 2) })

/-- CONSUME ends (42_link_engine.md R117) with fewer than two bytes or an incomplete candidate of valid length at the front, so with at most 63 bytes,
a rear part of what was there; it writes nothing of the send side and not `last_receive_ms` (43_dispatch.md R145). -/
def Obligations.ConsumeEndsAtAnIncompleteCandidate : Prop :=
  ∀ (now : Time) (s : State), s.running → ∃ t, exec (.consume now) s = .next t ∧
    (t.rxLen < 2 ∨ (3 ≤ (t.rxBuf.getD 1 0).toNat ∧ (t.rxBuf.getD 1 0).toNat ≤ 62 ∧ t.rxLen < (t.rxBuf.getD 1 0).toNat + 2)) ∧
    t.rxLen ≤ 63 ∧ t.rxBuf <:+ s.rxBuf ∧ t.lastReceiveMs = s.lastReceiveMs ∧ sendSideKept s t

/-- The five case rows of CONSUME, each where its case is selected (42_link_engine.md R118 to R122). -/
def Obligations.CaseRowsTakeOnePass : Prop :=
  ∀ (now : Time) (s : State) (L : Nat), s.running → L = (s.rxBuf.getD 1 0).toNat →
    (s.rxBuf.length < 2 → exec .waitHdr s = .next s) ∧
    (2 ≤ s.rxBuf.length → (L < 3 ∨ 62 < L) →
      exec .resync s = .next { s with rxBuf := s.rxBuf.drop 1, events := s.events ++ [.lenRange] }) ∧
    (2 ≤ s.rxBuf.length → 3 ≤ L → L ≤ 62 → s.rxBuf.length < L + 2 → exec .waitBody s = .next s) ∧
    (3 ≤ L → L ≤ 62 → L + 2 ≤ s.rxBuf.length → crc8 ((s.rxBuf.drop 2).take (L - 1)) ≠ s.rxBuf.getD (L + 1) 0 →
      exec .crcBad s = .next { s with rxBuf := s.rxBuf.drop (L + 2), events := s.events ++ [.crcMismatch] }) ∧
    (3 ≤ L → L ≤ 62 → L + 2 ≤ s.rxBuf.length → crc8 ((s.rxBuf.drop 2).take (L - 1)) = s.rxBuf.getD (L + 1) 0 →
      ∃ t, exec (.dispatch (s.rxBuf.getD 0 0) (s.rxBuf.getD 2 0) ((s.rxBuf.drop 3).take (L - 2)) now)
              { s with events := s.events ++ [.frameOk] } = .next t ∧
        exec (.crcOk now) s = .next { t with rxBuf := s.rxBuf.drop (L + 2) })

/-- TMO (42_link_engine.md R123, 70_reset_and_hazards.md R248): more than 100 ms (modulo 2^32) after the last byte it raises its label and flushes the
buffer to empty, byte by byte, with CONSUME run again after every byte, so that a frame behind the stalled one is still dispatched; it writes nothing
of the send side. Otherwise nothing. -/
def Obligations.StalledBufferIsFlushed : Prop :=
  ∀ (now : Time) (s : State), s.running →
    (0 < s.rxLen → 100 < (now - s.lastReceiveMs).toNat → ∃ t, exec (.tmo now) s = .next t ∧
      Flushed now { s with events := s.events ++ [.truncated] } t ∧ t.rxBuf = [] ∧
      (s.events ++ [.truncated]) <+: t.events ∧ t.lastReceiveMs = s.lastReceiveMs ∧ sendSideKept s t) ∧
    (s.rxLen = 0 ∨ (now - s.lastReceiveMs).toNat ≤ 100 → exec (.tmo now) s = .next s)

/-- LDN (42_link_engine.md R125): more than 120 000 ms after the last byte a raised link goes down with its strobe; nothing else changes, then or
otherwise. -/
def Obligations.SilenceLowersTheLink : Prop :=
  ∀ (now : Time) (s : State), s.running →
    (s.linkUp = true → 120000 < (now - s.lastReceiveMs).toNat →
      exec (.ldn now) s = .next { s with linkUp := false, events := s.events ++ [.onLinkDown] }) ∧
    (s.linkUp = false ∨ (now - s.lastReceiveMs).toNat ≤ 120000 → exec (.ldn now) s = .next s)

/-- STEP is its phases in order (42_link_engine.md R126, R128): the bytes, the label of a read error, CONSUME, TMO, LDN; a stopped block does
nothing. -/
def Obligations.StepIsItsPhases : Prop :=
  ∀ (rx : List (Byte × Time)) (fin : ReadEnd) (now : Time) (s : State),
    (s.stopped = true → exec (.step rx fin now) s = .next s) ∧
    (s.running → ∃ s1 t, execAll (rx.map fun q => .rxb q.1 q.2) s = .next s1 ∧ exec (.step rx fin now) s = .next t ∧
      execAll [.consume now, .tmo now, .ldn now]
        (if fin = .error then { s1 with events := s1.events ++ [.transportReadErr] } else s1) = .next t)

/-- Bounds of STEP (42_link_engine.md R127): at most 63 bytes on return, at most one `on_link_down`, and an idle step of an empty, down block changes
nothing. -/
def Obligations.StepBounds : Prop :=
  ∀ (rx : List (Byte × Time)) (fin : ReadEnd) (now : Time) (s : State), s.running →
    ∃ t, exec (.step rx fin now) s = .next t ∧ t.rxLen ≤ 63 ∧
      t.events.count .onLinkDown ≤ s.events.count .onLinkDown + 1 ∧
      (rx = [] → fin ≠ .error → s.rxLen = 0 → s.linkUp = false → t = s)

/-- A read error is no more than the end of the read phase (42_link_engine.md R128): apart from its label the STEP does what it does after "no
data". -/
def Obligations.ReadErrorActsLikeNoData : Prop :=
  ∀ (rx : List (Byte × Time)) (now : Time) (s : State), ∃ t1 t2,
    exec (.step rx .error now) s = .next t1 ∧ exec (.step rx .nodata now) s = .next t2 ∧
    { t1 with events := [] } = { t2 with events := [] } ∧ t1.events.filter Event.strobe = t2.events.filter Event.strobe

/-! The channel store. -/

/-- CH_GET and CH_SNAPSHOT (44_channel_store.md R155, R157): a read of channel `k` from 1 to 16 answers `ch[k-1]` as stored, any other read 1500, and
the snapshot answers all sixteen; no state of the block changes. -/
def Obligations.ChannelReads : Prop :=
  ∀ s : State,
    (∀ i : Fin 16, exec (.chGet ((i : Int) + 1)) s = .next { s with result := .int (s.ch[i]).toInt }) ∧
    (∀ k : Int, k < 1 ∨ 16 < k → exec (.chGet k) s = .next { s with result := .int 1500 }) ∧
    exec .chSnapshot s = .next { s with result := .channels s.ch }

/-- CH_SET (44_channel_store.md R156): a write of channel `k` from 1 to 16 stores the value verbatim in `ch[k-1]` and nowhere else; any other write
does nothing. -/
def Obligations.ChannelWrites : Prop :=
  ∀ (us : Chan) (s : State), s.running →
    (∀ i : Fin 16, ∃ cs : Vector Chan 16, exec (.chSet ((i : Int) + 1) us) s = .next { s with ch := cs } ∧
      cs[i] = us ∧ ∀ j : Fin 16, j ≠ i → cs[j] = s.ch[j]) ∧
    (∀ k : Int, k < 1 ∨ 16 < k → exec (.chSet k us) s = .next s)

/-! The send scheduler. -/

/-- The transmitted frame (45_send_scheduler.md R166, 30_encoding.md R73, 41_channel_codec.md R106): 26 bytes `C8 18 16 payload crc`, the payload PACK
of the sixteen channels' US2CODE codes, accepted by the check, and decoding to the clamped channels. That TX_RC forms it is the model's reading (log
15), and that a frame still in flight is replaced is its choice (log 14). -/
def Obligations.TransmittedFrame : Prop :=
  ∀ (s : State) (p : List Byte), s.running → p = pack (s.ch.toList.map fun u => us2code u.toInt) →
    exec .sendBuild s = .next { s with txInflight := .built ([0xC8, 0x18, 0x16] ++ p ++ [crc8 (0x16 :: p)]) } ∧
    exec .txRc s = .next { s with txInflight := .built ([0xC8, 0x18, 0x16] ++ p ++ [crc8 (0x16 :: p)]) } ∧ p.length = 22 ∧
    frameCheck ([0xC8, 0x18, 0x16] ++ p ++ [crc8 (0x16 :: p)]) = .crcOk 24 ∧
    ∀ i : Fin 16, ((unpackChannels p)[i]).toInt = clamp (s.ch[i]).toInt 1000 2000

/-- SEND_GATE (45_send_scheduler.md R167): a built frame passes when the link is up or telemetry is ignored; otherwise it is dropped, not kept. -/
def Obligations.LinkGate : Prop :=
  ∀ (f : List Byte) (s : State), s.running → s.txInflight = .built f →
    (s.linkUp = true ∨ s.ignoreTel = true → exec .sendGate s = .next { s with txInflight := .passed f }) ∧
    (s.linkUp = false → s.ignoreTel = false →
      exec .sendGate s = .next { s with txInflight := .none, events := s.events ++ [.txGated] })

/-- SEND_EMIT (45_send_scheduler.md R168, 20_memory.md R45): whatever the link, an accepted frame is on the line whole; of a failed one some proper
front part, which nothing fixes, and it is not kept for a retry. With no answer of the wire at hand it is one of the two (log 9). -/
def Obligations.PassedFrameIsEmitted : Prop :=
  ∀ (f : List Byte) (s : State), s.running → s.txInflight = .passed f → f ≠ [] →
    (∀ as, s.emitAnswers = .accepted :: as →
      exec .sendEmit s = .next { s with txInflight := .none, emitAnswers := as, txLine := s.txLine ++ [.frame f] }) ∧
    (∀ as, s.emitAnswers = .failed :: as → ∃ b n, b <+: f ∧ b.length < f.length ∧
      exec .sendEmit s = .next { s with txInflight := .none, emitAnswers := as, txLine := s.txLine ++ [.partialFrame b],
                                        freeCount := n, events := s.events ++ [.transportWriteErr] }) ∧
    (s.emitAnswers = [] → ∃ n,
      exec .sendEmit s = .next { s with txInflight := .none, txLine := s.txLine ++ [.frame f], freeCount := n } ∨
      ∃ b, b <+: f ∧ b.length < f.length ∧
        exec .sendEmit s = .next { s with txInflight := .none, txLine := s.txLine ++ [.partialFrame b],
                                          freeCount := n, events := s.events ++ [.transportWriteErr] })

/-- SEND, FORCE_SEND and the drained `sendChannels` (45_send_scheduler.md R170, 46_control_inputs.md R183): each stamps `last_tx_ms` whatever becomes
of the frame (the spec's own decision D18), and sends the frame of R166 through the gate, once. That a frame still in flight is replaced is the
model's choice (log 14), of a failed frame some front part is on the line (log 7), and with no answer of the wire at hand it is one of the two (log
9). -/
def Obligations.SendsStampAndPassTheGate : Prop :=
  ∀ (now : Time) (s : State) (i : Instr) (f : List Byte), s.running → (i = .send now ∨ i = .forceSend now ∨ i = .sendChannels now) →
    f = frameBytes 0xC8 0x16 (pack (s.ch.toList.map fun u => us2code u.toInt)) →
    (gateOpen s = false → exec i s = .next { s with lastTxMs := now, txInflight := .none, events := s.events ++ [.txGated] }) ∧
    (∀ as, gateOpen s = true → s.emitAnswers = .accepted :: as →
      exec i s = .next { s with lastTxMs := now, txInflight := .none, emitAnswers := as, txLine := s.txLine ++ [.frame f] }) ∧
    (∀ as, gateOpen s = true → s.emitAnswers = .failed :: as → ∃ b n, b.length < 26 ∧ b <+: f ∧
      exec i s = .next { s with lastTxMs := now, txInflight := .none, emitAnswers := as, freeCount := n,
                                txLine := s.txLine ++ [.partialFrame b], events := s.events ++ [.transportWriteErr] }) ∧
    (gateOpen s = true → s.emitAnswers = [] → ∃ n,
      exec i s = .next { s with lastTxMs := now, txInflight := .none, freeCount := n, txLine := s.txLine ++ [.frame f] } ∨
      ∃ b, b.length < 26 ∧ b <+: f ∧
        exec i s = .next { s with lastTxMs := now, txInflight := .none, freeCount := n,
                                  txLine := s.txLine ++ [.partialFrame b], events := s.events ++ [.transportWriteErr] }) ∧
    ∃ t, exec i s = .next t ∧ t.lastTxMs = now ∧ t.txInflight = .none ∧ t.ch = s.ch

/-- TICK (45_send_scheduler.md R165): at least 10 ms (modulo 2^32) after the last send it is one SEND, before that nothing. -/
def Obligations.TickSendsWhenDue : Prop :=
  ∀ (now : Time) (s : State), s.running →
    (10 ≤ (now - s.lastTxMs).toNat → ∃ t, exec (.tick now) s = .next t ∧ exec (.send now) s = .next t ∧ t.lastTxMs = now) ∧
    ((now - s.lastTxMs).toNat < 10 → exec (.tick now) s = .next s)

/-- SCHED_ITER (45_send_scheduler.md R171): the control inputs in order, each as its own operation, then TICK; a stopped block does nothing. -/
def Obligations.SchedulerIterationIsItsInputsThenTick : Prop :=
  ∀ (inputs : List Control) (now : Time) (s : State),
    (s.stopped = true → exec (.schedIter inputs now) s = .next s) ∧
    (s.running → ∃ t, exec (.schedIter inputs now) s = .next t ∧ execAll (inputs.map (controlOp now) ++ [.tick now]) s = .next t)

/-- One frame may be emitted after link-down (70_reset_and_hazards.md R244, 20_memory.md R55): LDN between SEND_GATE and SEND_EMIT. The three separate
steps are the spec's own decision (92_eei_decisions.md D25). -/
def Obligations.OneFrameAfterLinkDown : Prop :=
  ∀ (f : List Byte) (as : List EmitAnswer) (now : Time) (s : State), s.running → s.txInflight = .built f → s.linkUp = true →
    120000 < (now - s.lastReceiveMs).toNat → s.emitAnswers = .accepted :: as →
    ∃ t, execAll [.sendGate, .ldn now, .sendEmit] s = .next t ∧ t.linkUp = false ∧ t.events = s.events ++ [.onLinkDown] ∧
      t.txLine = s.txLine ++ [.frame f] ∧ t.txInflight = .none

/-! Control inputs. -/

/-- SET_MODE and the command `setMode` (46_control_inputs.md R184), SET_IGNORE_TEL (R185; the operation is the spec's own decision D24): one register
each; STOP (R188) its bit and nothing else. That STOP leaves `link_up` as it was is the spec's own decision D22, with the words that no claim should
rest on its value after STOP (log 12). -/
def Obligations.ModeAndFlagWrites : Prop :=
  ∀ (m : Mode) (v : Bool) (s : State), s.running →
    exec (.setMode m) s = .next { s with mode := m } ∧ exec (.setModeText m) s = .next { s with mode := m } ∧
    exec (.setIgnoreTel v) s = .next { s with ignoreTel := v } ∧ exec .stop s = .next { s with stopped := true }

/-- JOY_AXIS (46_control_inputs.md R186, R187): in manual mode nothing; in joystick mode axes 2, 3, 1, 0 write channels 1 to 4, axes 3 and 1 inverted,
and any other axis nothing. The map between its anchors is the spec's own decision (92_eei_decisions.md D23; log 29). -/
def Obligations.JoystickDrivesFourChannels : Prop :=
  ∀ (a : BitVec 16) (s : State), s.running →
    (∀ axis, s.mode = .manual → exec (.joyAxis axis a) s = .next s) ∧
    (s.mode = .joystick →
      exec (.joyAxis 2 a) s = .next { s with ch := s.ch.set 0 (BitVec.ofInt 32 (joyMap a.toInt)) } ∧
      exec (.joyAxis 3 a) s = .next { s with ch := s.ch.set 1 (BitVec.ofInt 32 (joyMap (-a.toInt))) } ∧
      exec (.joyAxis 1 a) s = .next { s with ch := s.ch.set 2 (BitVec.ofInt 32 (joyMap (-a.toInt))) } ∧
      exec (.joyAxis 0 a) s = .next { s with ch := s.ch.set 3 (BitVec.ofInt 32 (joyMap a.toInt)) } ∧
      ∀ axis, axis ∉ [0, 1, 2, 3] → exec (.joyAxis axis a) s = .next s)

/-- JOY_MAP (46_control_inputs.md R186): the three points the source fixes, monotone, and in range. -/
def Obligations.JoystickMapAnchors : Prop :=
  joyMap (-32768) = 1000 ∧ joyMap 0 = 1500 ∧ joyMap 32767 = 2000 ∧ joyMap 32768 = 2000 ∧
  (∀ v w : Int, v ≤ w → joyMap v ≤ joyMap w) ∧ (∀ v : Int, 1000 ≤ joyMap v ∧ joyMap v ≤ 2000)

/-- STOP sets its bit and nothing else, in any state, and in a stopped block no agent has a step (10_state.md R26, 46_control_inputs.md R188): an
operation of the agents that answers leaves the state as it was, and an operation in progress takes no further step. The one exception is a frame in
flight, which may or may not be emitted, so its gate and its emit may or may not take effect (log 8), the emit with any of the wire's answers (logs 7,
9). That the host's direct writes are steps of an agent too is read from R5 and R26 (log 11); `link_up` keeps its value, on which no claim should rest
(log 12). -/
def Obligations.StoppedBlockTakesNoStep : Prop :=
  (∀ s : State, exec .stop s = .next { s with stopped := true }) ∧
  ∀ s : State, s.stopped = true →
    (∀ rx fin now, exec (.step rx fin now) s = .next s) ∧ (∀ inputs now, exec (.schedIter inputs now) s = .next s) ∧
    (∀ i t, i.engine ≠ none → i ≠ .sendGate → i ≠ .sendEmit → exec i s = .next t → t = s) ∧
    (∀ k us, exec (.chSet k us) s = .next s) ∧ (∀ m, exec (.setMode m) s = .next s) ∧ (∀ v, exec (.setIgnoreTel v) s = .next s) ∧
    (∀ axis a, exec (.joyAxis axis a) s = .next s) ∧
    (∀ f, s.txInflight = .built f → ∃ n,
      exec .sendGate s = .next { s with freeCount := n } ∨
      (gateOpen s = true ∧ exec .sendGate s = .next { s with freeCount := n, txInflight := .passed f }) ∨
      (gateOpen s = false ∧ exec .sendGate s = .next { s with freeCount := n, txInflight := .none, events := s.events ++ [.txGated] })) ∧
    (∀ f, s.txInflight = .passed f → f ≠ [] → ∃ n,
      exec .sendEmit s = .next { s with freeCount := n } ∨
      (s.emitAnswers.head? ≠ some .failed ∧
        exec .sendEmit s = .next { s with freeCount := n, txInflight := .none, emitAnswers := s.emitAnswers.tail, txLine := s.txLine ++ [.frame f] }) ∨
      (s.emitAnswers.head? ≠ some .accepted ∧ ∃ b, b <+: f ∧ b.length < f.length ∧
        exec .sendEmit s = .next { s with freeCount := n, txInflight := .none, emitAnswers := s.emitAnswers.tail,
                                          txLine := s.txLine ++ [.partialFrame b], events := s.events ++ [.transportWriteErr] })) ∧
    (∀ a t ts rest, s.agenda = .resume a :: rest → Agents.planOf a s = t :: ts → t ≠ .gate → t ≠ .emit →
      step s = .next (Agents.setPlan a [] { s with agenda := rest })) ∧
    (∀ a f ts rest, s.agenda = .resume a :: rest → Agents.planOf a s = .gate :: ts → s.txInflight = .built f →
      step s = exec .sendGate (Agents.setPlan a ts { s with agenda := rest })) ∧
    (∀ a f ts rest, s.agenda = .resume a :: rest → Agents.planOf a s = .emit :: ts → s.txInflight = .passed f →
      step s = exec .sendEmit (Agents.setPlan a ts { s with agenda := rest }))

/-- `setChannel` (46_control_inputs.md R181) writes a channel when both numbers are in range and is rejected otherwise, changing nothing but the
label. -/
def Obligations.SetChannelCommand : Prop :=
  ∀ (i us : Int) (s : State), s.running →
    (∀ j : Fin 16, i = (j : Int) + 1 → 1000 ≤ us → us ≤ 2000 → ∃ cs : Vector Chan 16,
      exec (.setChannel i us) s = .next { s with ch := cs } ∧ (cs[j]).toInt = us ∧ ∀ k : Fin 16, k ≠ j → cs[k] = s.ch[k]) ∧
    (¬ (1 ≤ i ∧ i ≤ 16 ∧ 1000 ≤ us ∧ us ≤ 2000) → exec (.setChannel i us) s = .next { s with events := s.events ++ [.cmdReject] })

/-- `setChannels` (46_control_inputs.md R182): a pair out of range is dropped, the others are applied left to right, so the last valid pair of a
channel wins. That one bad pair does not void the line is the spec's own decision (92_eei_decisions.md D30). That a dropped pair leaves no label in the
history is the model's reading of R182, which 60_exceptions.md R200 and R209 leave open (log 32). -/
def Obligations.SetChannelsCommand : Prop :=
  ∀ (pairs : List (Int × Int)) (s : State), s.running →
    ∃ cs : Vector Chan 16, exec (.setChannels pairs) s = .next { s with ch := cs } ∧
      ∀ j : Fin 16,
        cs[j] = match (pairs.filter fun q => q.1 = (j : Int) + 1 ∧ 1000 ≤ q.2 ∧ q.2 ≤ 2000).getLast? with
          | some q => BitVec.ofInt 32 q.2
          | none => s.ch[j]

/-! The host's register port. -/

/-- Reads of 10_state.md R33, each a step that answers a word of the state as it is and changes nothing but the place of the answer (20_memory.md R53,
R54): every register with its extension, `STATUS` and `CTRL` bit by bit. The registers of one telemetry group that a host reads word by word are all
of one instant, so it never sees a torn group, and the record copy is one atomic read of every group, `link_up` and the time stamps (R51). A number
that the table does not list faults (the model's choice, log 27). The register numbers and the word-by-word rule are the spec's own decisions
(92_eei_decisions.md D26, D34); that the words of a group are one step, and the place of the answer, are the model's choices (log 40, log 4). -/
def Obligations.RegisterReads : Prop :=
  (∀ (s : State) (rest : List Entry), s.agenda = .recordCopy :: rest →
    step s = .next { s with agenda := rest, result := Result.record (Record.mk s.gps s.bat s.att s.linkstat s.fm s.linkUp s.lastReceiveMs
      s.lastChannelsMs s.lastTxMs) }) ∧
  (∀ (s : State) (g : Group) (rest : List Entry), s.agenda = .groupRead g :: rest →
    ∃ ws, step s = .next { s with agenda := rest, result := .words ws } ∧ ws.map Prod.fst = groupNumbers g ∧
      ∀ n w, (n, w) ∈ ws → step { s with agenda := .regRead n :: rest } = .next { s with agenda := rest, result := .word w }) ∧
  ∀ (s : State) (n : Nat) (rest : List Entry), s.agenda = .regRead n :: rest →
    (∀ i : Fin 16, n = i → step s = .next { s with agenda := rest, result := .word s.ch[i] }) ∧
    (n = 0x10 → s.rxLen ≤ 64 → ∃ w : BitVec 32, step s = .next { s with agenda := rest, result := .word w } ∧
      w.getLsbD 0 = s.linkUp ∧ w.getLsbD 1 = s.gps.valid ∧ w.getLsbD 2 = s.bat.valid ∧ w.getLsbD 3 = s.att.valid ∧
      w.getLsbD 4 = s.linkstat.valid ∧ w.getLsbD 5 = s.fm.valid ∧ w.getLsbD 6 = (s.txInflight != .none) ∧ w.getLsbD 7 = s.stopped ∧
      w.toNat / 256 = s.rxLen) ∧
    (n = 0x11 → step s = .next { s with agenda := rest, result := .word s.lastReceiveMs }) ∧
    (n = 0x12 → step s = .next { s with agenda := rest, result := .word s.lastChannelsMs }) ∧
    (n = 0x13 → step s = .next { s with agenda := rest, result := .word s.lastTxMs }) ∧
    (n = 0x14 → ∃ w : BitVec 32, step s = .next { s with agenda := rest, result := .word w } ∧
      w.getLsbD 0 = s.ignoreTel ∧ w.getLsbD 1 = (s.mode == .manual) ∧ w.toNat < 4) ∧
    (n = 0x15 → step s = .next { s with agenda := rest, result := .word 0 }) ∧
    (n = 0x20 → step s = .next { s with agenda := rest, result := .word s.gps.lat }) ∧
    (n = 0x21 → step s = .next { s with agenda := rest, result := .word s.gps.lon }) ∧
    (n ∈ [0x22, 0x23, 0x24, 0x25] → ∃ w : BitVec 32, step s = .next { s with agenda := rest, result := .word w } ∧
      (n = 0x22 → w.toNat = s.gps.speed.toNat) ∧ (n = 0x23 → w.toNat = s.gps.heading.toNat) ∧ (n = 0x24 → w.toNat = s.gps.alt.toNat) ∧
      (n = 0x25 → w.toNat = s.gps.sats.toNat)) ∧
    (n ∈ [0x28, 0x29, 0x2A, 0x2B] → ∃ w : BitVec 32, step s = .next { s with agenda := rest, result := .word w } ∧
      (n = 0x28 → w.toNat = s.bat.voltage.toNat) ∧ (n = 0x29 → w.toNat = s.bat.current.toNat) ∧
      (n = 0x2A → w.toNat = s.bat.capacity.toNat) ∧ (n = 0x2B → w.toNat = s.bat.remaining.toNat)) ∧
    (n ∈ [0x30, 0x31, 0x32] → ∃ w : BitVec 32, step s = .next { s with agenda := rest, result := .word w } ∧
      (n = 0x30 → w.toInt = s.att.pitchRaw.toInt) ∧ (n = 0x31 → w.toInt = s.att.rollRaw.toInt) ∧ (n = 0x32 → w.toInt = s.att.yawRaw.toInt)) ∧
    (∀ k : Fin 3, n = 0x38 + k → ∃ w : BitVec 32, step s = .next { s with agenda := rest, result := .word w } ∧
      ∀ j : Fin 4, w.extractLsb' (8 * j) 8 = s.linkstat.bytes.toList.getD (4 * k + j) 0) ∧
    (n = 0x3F → ∃ w : BitVec 32, step s = .next { s with agenda := rest, result := .word w } ∧ w.toNat = s.fmLen % 2 ^ 32) ∧
    (∀ k : Fin 15, n = 0x40 + k → ∃ w : BitVec 32, step s = .next { s with agenda := rest, result := .word w } ∧
      ∀ j : Fin 4, w.extractLsb' (8 * j) 8 = s.fm.bytes.getD (4 * k + j) 0) ∧
    (n ∉ registerNumbers → step s = .fault (.noSuchRegister n))

/-- Writes of 10_state.md R33, each a step: a channel, the two bits of `CTRL`, the two commands of `CMD`. A requested FORCE_SEND stands behind the
steps the TX scheduler still has to take, with the clock value of the write (the model's choice, log 10), and the host's step sends nothing itself
(00_scope.md R5); with both bits set the block is stopped and no send follows (log 10). A stopped block takes no write (log 11). A write of any
register without write access, and of any number the table does not list, faults: the model's choice (log 27). The register numbers are the spec's own
decision (92_eei_decisions.md D26). -/
def Obligations.RegisterWrites : Prop :=
  ∀ (s : State) (n : Nat) (v : BitVec 32) (now : Time) (rest : List Entry), s.agenda = .regWrite n v now :: rest →
    (∀ i : Fin 16, s.running → n = i → step s = .next { s with agenda := rest, ch := s.ch.set i v }) ∧
    (s.running → n = 0x14 → step s =
      .next { s with agenda := rest, ignoreTel := v.getLsbD 0, mode := if v.getLsbD 1 then .manual else .joystick }) ∧
    (s.running → n = 0x15 →
      (v.getLsbD 1 = true → step s = .next { s with agenda := rest, stopped := true }) ∧
      (v.getLsbD 0 = true → v.getLsbD 1 = false →
        step s = .next { s with agenda := rest, txPlan := s.txPlan ++ [.control .forceSend now] }) ∧
      (v.getLsbD 0 = false → v.getLsbD 1 = false → step s = .next { s with agenda := rest })) ∧
    (s.stopped = true → (n < 16 ∨ n = 0x14 ∨ n = 0x15) → step s = .next { s with agenda := rest }) ∧
    (n ∈ registerNumbers → ¬ (n < 16 ∨ n = 0x14 ∨ n = 0x15) → step s = .fault (.readOnlyRegister n)) ∧
    (n ∉ registerNumbers → step s = .fault (.noSuchRegister n))
end

