-- ==== Sys2Proof/Laws/State.lean ====
section
/-! SUPPORT. What each record update of Machine/Ops.lean does to each field of State: one lemma per field per update, true by rfl. -/

namespace Sys2Proof.Machine.Ops

/-! `raise`. -/

@[simp] theorem raise_rxBuf (e : Event) (s : State) : (raise e s).rxBuf = s.rxBuf := rfl
@[simp] theorem raise_lastReceiveMs (e : Event) (s : State) : (raise e s).lastReceiveMs = s.lastReceiveMs := rfl
@[simp] theorem raise_lastChannelsMs (e : Event) (s : State) : (raise e s).lastChannelsMs = s.lastChannelsMs := rfl
@[simp] theorem raise_linkUp (e : Event) (s : State) : (raise e s).linkUp = s.linkUp := rfl
@[simp] theorem raise_ch (e : Event) (s : State) : (raise e s).ch = s.ch := rfl
@[simp] theorem raise_gps (e : Event) (s : State) : (raise e s).gps = s.gps := rfl
@[simp] theorem raise_bat (e : Event) (s : State) : (raise e s).bat = s.bat := rfl
@[simp] theorem raise_att (e : Event) (s : State) : (raise e s).att = s.att := rfl
@[simp] theorem raise_linkstat (e : Event) (s : State) : (raise e s).linkstat = s.linkstat := rfl
@[simp] theorem raise_fm (e : Event) (s : State) : (raise e s).fm = s.fm := rfl
@[simp] theorem raise_lastTxMs (e : Event) (s : State) : (raise e s).lastTxMs = s.lastTxMs := rfl
@[simp] theorem raise_txInflight (e : Event) (s : State) : (raise e s).txInflight = s.txInflight := rfl
@[simp] theorem raise_ignoreTel (e : Event) (s : State) : (raise e s).ignoreTel = s.ignoreTel := rfl
@[simp] theorem raise_mode (e : Event) (s : State) : (raise e s).mode = s.mode := rfl
@[simp] theorem raise_stopped (e : Event) (s : State) : (raise e s).stopped = s.stopped := rfl
@[simp] theorem raise_events (e : Event) (s : State) : (raise e s).events = s.events ++ [e] := rfl
@[simp] theorem raise_txLine (e : Event) (s : State) : (raise e s).txLine = s.txLine := rfl
@[simp] theorem raise_emitAnswers (e : Event) (s : State) : (raise e s).emitAnswers = s.emitAnswers := rfl
@[simp] theorem raise_agenda (e : Event) (s : State) : (raise e s).agenda = s.agenda := rfl
@[simp] theorem raise_rxPlan (e : Event) (s : State) : (raise e s).rxPlan = s.rxPlan := rfl
@[simp] theorem raise_txPlan (e : Event) (s : State) : (raise e s).txPlan = s.txPlan := rfl
@[simp] theorem raise_result (e : Event) (s : State) : (raise e s).result = s.result := rfl
@[simp] theorem raise_freeCount (e : Event) (s : State) : (raise e s).freeCount = s.freeCount := rfl

/-! `answer`. -/

@[simp] theorem answer_rxBuf (r : Result) (s : State) : (answer r s).rxBuf = s.rxBuf := rfl
@[simp] theorem answer_lastReceiveMs (r : Result) (s : State) : (answer r s).lastReceiveMs = s.lastReceiveMs := rfl
@[simp] theorem answer_lastChannelsMs (r : Result) (s : State) : (answer r s).lastChannelsMs = s.lastChannelsMs := rfl
@[simp] theorem answer_linkUp (r : Result) (s : State) : (answer r s).linkUp = s.linkUp := rfl
@[simp] theorem answer_ch (r : Result) (s : State) : (answer r s).ch = s.ch := rfl
@[simp] theorem answer_gps (r : Result) (s : State) : (answer r s).gps = s.gps := rfl
@[simp] theorem answer_bat (r : Result) (s : State) : (answer r s).bat = s.bat := rfl
@[simp] theorem answer_att (r : Result) (s : State) : (answer r s).att = s.att := rfl
@[simp] theorem answer_linkstat (r : Result) (s : State) : (answer r s).linkstat = s.linkstat := rfl
@[simp] theorem answer_fm (r : Result) (s : State) : (answer r s).fm = s.fm := rfl
@[simp] theorem answer_lastTxMs (r : Result) (s : State) : (answer r s).lastTxMs = s.lastTxMs := rfl
@[simp] theorem answer_txInflight (r : Result) (s : State) : (answer r s).txInflight = s.txInflight := rfl
@[simp] theorem answer_ignoreTel (r : Result) (s : State) : (answer r s).ignoreTel = s.ignoreTel := rfl
@[simp] theorem answer_mode (r : Result) (s : State) : (answer r s).mode = s.mode := rfl
@[simp] theorem answer_stopped (r : Result) (s : State) : (answer r s).stopped = s.stopped := rfl
@[simp] theorem answer_events (r : Result) (s : State) : (answer r s).events = s.events := rfl
@[simp] theorem answer_txLine (r : Result) (s : State) : (answer r s).txLine = s.txLine := rfl
@[simp] theorem answer_emitAnswers (r : Result) (s : State) : (answer r s).emitAnswers = s.emitAnswers := rfl
@[simp] theorem answer_agenda (r : Result) (s : State) : (answer r s).agenda = s.agenda := rfl
@[simp] theorem answer_rxPlan (r : Result) (s : State) : (answer r s).rxPlan = s.rxPlan := rfl
@[simp] theorem answer_txPlan (r : Result) (s : State) : (answer r s).txPlan = s.txPlan := rfl
@[simp] theorem answer_result (r : Result) (s : State) : (answer r s).result = r := rfl
@[simp] theorem answer_freeCount (r : Result) (s : State) : (answer r s).freeCount = s.freeCount := rfl

/-! `countFree`. -/

@[simp] theorem countFree_rxBuf (s : State) : (countFree s).rxBuf = s.rxBuf := rfl
@[simp] theorem countFree_lastReceiveMs (s : State) : (countFree s).lastReceiveMs = s.lastReceiveMs := rfl
@[simp] theorem countFree_lastChannelsMs (s : State) : (countFree s).lastChannelsMs = s.lastChannelsMs := rfl
@[simp] theorem countFree_linkUp (s : State) : (countFree s).linkUp = s.linkUp := rfl
@[simp] theorem countFree_ch (s : State) : (countFree s).ch = s.ch := rfl
@[simp] theorem countFree_gps (s : State) : (countFree s).gps = s.gps := rfl
@[simp] theorem countFree_bat (s : State) : (countFree s).bat = s.bat := rfl
@[simp] theorem countFree_att (s : State) : (countFree s).att = s.att := rfl
@[simp] theorem countFree_linkstat (s : State) : (countFree s).linkstat = s.linkstat := rfl
@[simp] theorem countFree_fm (s : State) : (countFree s).fm = s.fm := rfl
@[simp] theorem countFree_lastTxMs (s : State) : (countFree s).lastTxMs = s.lastTxMs := rfl
@[simp] theorem countFree_txInflight (s : State) : (countFree s).txInflight = s.txInflight := rfl
@[simp] theorem countFree_ignoreTel (s : State) : (countFree s).ignoreTel = s.ignoreTel := rfl
@[simp] theorem countFree_mode (s : State) : (countFree s).mode = s.mode := rfl
@[simp] theorem countFree_stopped (s : State) : (countFree s).stopped = s.stopped := rfl
@[simp] theorem countFree_events (s : State) : (countFree s).events = s.events := rfl
@[simp] theorem countFree_txLine (s : State) : (countFree s).txLine = s.txLine := rfl
@[simp] theorem countFree_emitAnswers (s : State) : (countFree s).emitAnswers = s.emitAnswers := rfl
@[simp] theorem countFree_agenda (s : State) : (countFree s).agenda = s.agenda := rfl
@[simp] theorem countFree_rxPlan (s : State) : (countFree s).rxPlan = s.rxPlan := rfl
@[simp] theorem countFree_txPlan (s : State) : (countFree s).txPlan = s.txPlan := rfl
@[simp] theorem countFree_result (s : State) : (countFree s).result = s.result := rfl
@[simp] theorem countFree_freeCount (s : State) : (countFree s).freeCount = s.freeCount + 1 := rfl

/-! `shift`. -/

@[simp] theorem shift_rxBuf (n : Nat) (s : State) : (shift n s).rxBuf = s.rxBuf.drop n := rfl
@[simp] theorem shift_lastReceiveMs (n : Nat) (s : State) : (shift n s).lastReceiveMs = s.lastReceiveMs := rfl
@[simp] theorem shift_lastChannelsMs (n : Nat) (s : State) : (shift n s).lastChannelsMs = s.lastChannelsMs := rfl
@[simp] theorem shift_linkUp (n : Nat) (s : State) : (shift n s).linkUp = s.linkUp := rfl
@[simp] theorem shift_ch (n : Nat) (s : State) : (shift n s).ch = s.ch := rfl
@[simp] theorem shift_gps (n : Nat) (s : State) : (shift n s).gps = s.gps := rfl
@[simp] theorem shift_bat (n : Nat) (s : State) : (shift n s).bat = s.bat := rfl
@[simp] theorem shift_att (n : Nat) (s : State) : (shift n s).att = s.att := rfl
@[simp] theorem shift_linkstat (n : Nat) (s : State) : (shift n s).linkstat = s.linkstat := rfl
@[simp] theorem shift_fm (n : Nat) (s : State) : (shift n s).fm = s.fm := rfl
@[simp] theorem shift_lastTxMs (n : Nat) (s : State) : (shift n s).lastTxMs = s.lastTxMs := rfl
@[simp] theorem shift_txInflight (n : Nat) (s : State) : (shift n s).txInflight = s.txInflight := rfl
@[simp] theorem shift_ignoreTel (n : Nat) (s : State) : (shift n s).ignoreTel = s.ignoreTel := rfl
@[simp] theorem shift_mode (n : Nat) (s : State) : (shift n s).mode = s.mode := rfl
@[simp] theorem shift_stopped (n : Nat) (s : State) : (shift n s).stopped = s.stopped := rfl
@[simp] theorem shift_events (n : Nat) (s : State) : (shift n s).events = s.events := rfl
@[simp] theorem shift_txLine (n : Nat) (s : State) : (shift n s).txLine = s.txLine := rfl
@[simp] theorem shift_emitAnswers (n : Nat) (s : State) : (shift n s).emitAnswers = s.emitAnswers := rfl
@[simp] theorem shift_agenda (n : Nat) (s : State) : (shift n s).agenda = s.agenda := rfl
@[simp] theorem shift_rxPlan (n : Nat) (s : State) : (shift n s).rxPlan = s.rxPlan := rfl
@[simp] theorem shift_txPlan (n : Nat) (s : State) : (shift n s).txPlan = s.txPlan := rfl
@[simp] theorem shift_result (n : Nat) (s : State) : (shift n s).result = s.result := rfl
@[simp] theorem shift_freeCount (n : Nat) (s : State) : (shift n s).freeCount = s.freeCount := rfl

/-! `append`. -/

@[simp] theorem append_rxBuf (b : Byte) (s : State) : (append b s).rxBuf = s.rxBuf ++ [b] := rfl
@[simp] theorem append_lastReceiveMs (b : Byte) (s : State) : (append b s).lastReceiveMs = s.lastReceiveMs := rfl
@[simp] theorem append_lastChannelsMs (b : Byte) (s : State) : (append b s).lastChannelsMs = s.lastChannelsMs := rfl
@[simp] theorem append_linkUp (b : Byte) (s : State) : (append b s).linkUp = s.linkUp := rfl
@[simp] theorem append_ch (b : Byte) (s : State) : (append b s).ch = s.ch := rfl
@[simp] theorem append_gps (b : Byte) (s : State) : (append b s).gps = s.gps := rfl
@[simp] theorem append_bat (b : Byte) (s : State) : (append b s).bat = s.bat := rfl
@[simp] theorem append_att (b : Byte) (s : State) : (append b s).att = s.att := rfl
@[simp] theorem append_linkstat (b : Byte) (s : State) : (append b s).linkstat = s.linkstat := rfl
@[simp] theorem append_fm (b : Byte) (s : State) : (append b s).fm = s.fm := rfl
@[simp] theorem append_lastTxMs (b : Byte) (s : State) : (append b s).lastTxMs = s.lastTxMs := rfl
@[simp] theorem append_txInflight (b : Byte) (s : State) : (append b s).txInflight = s.txInflight := rfl
@[simp] theorem append_ignoreTel (b : Byte) (s : State) : (append b s).ignoreTel = s.ignoreTel := rfl
@[simp] theorem append_mode (b : Byte) (s : State) : (append b s).mode = s.mode := rfl
@[simp] theorem append_stopped (b : Byte) (s : State) : (append b s).stopped = s.stopped := rfl
@[simp] theorem append_events (b : Byte) (s : State) : (append b s).events = s.events := rfl
@[simp] theorem append_txLine (b : Byte) (s : State) : (append b s).txLine = s.txLine := rfl
@[simp] theorem append_emitAnswers (b : Byte) (s : State) : (append b s).emitAnswers = s.emitAnswers := rfl
@[simp] theorem append_agenda (b : Byte) (s : State) : (append b s).agenda = s.agenda := rfl
@[simp] theorem append_rxPlan (b : Byte) (s : State) : (append b s).rxPlan = s.rxPlan := rfl
@[simp] theorem append_txPlan (b : Byte) (s : State) : (append b s).txPlan = s.txPlan := rfl
@[simp] theorem append_result (b : Byte) (s : State) : (append b s).result = s.result := rfl
@[simp] theorem append_freeCount (b : Byte) (s : State) : (append b s).freeCount = s.freeCount := rfl

/-! `stamp`. -/

@[simp] theorem stamp_rxBuf (now : Time) (s : State) : (stamp now s).rxBuf = s.rxBuf := rfl
@[simp] theorem stamp_lastReceiveMs (now : Time) (s : State) : (stamp now s).lastReceiveMs = s.lastReceiveMs := rfl
@[simp] theorem stamp_lastChannelsMs (now : Time) (s : State) : (stamp now s).lastChannelsMs = s.lastChannelsMs := rfl
@[simp] theorem stamp_linkUp (now : Time) (s : State) : (stamp now s).linkUp = s.linkUp := rfl
@[simp] theorem stamp_ch (now : Time) (s : State) : (stamp now s).ch = s.ch := rfl
@[simp] theorem stamp_gps (now : Time) (s : State) : (stamp now s).gps = s.gps := rfl
@[simp] theorem stamp_bat (now : Time) (s : State) : (stamp now s).bat = s.bat := rfl
@[simp] theorem stamp_att (now : Time) (s : State) : (stamp now s).att = s.att := rfl
@[simp] theorem stamp_linkstat (now : Time) (s : State) : (stamp now s).linkstat = s.linkstat := rfl
@[simp] theorem stamp_fm (now : Time) (s : State) : (stamp now s).fm = s.fm := rfl
@[simp] theorem stamp_lastTxMs (now : Time) (s : State) : (stamp now s).lastTxMs = now := rfl
@[simp] theorem stamp_txInflight (now : Time) (s : State) : (stamp now s).txInflight = s.txInflight := rfl
@[simp] theorem stamp_ignoreTel (now : Time) (s : State) : (stamp now s).ignoreTel = s.ignoreTel := rfl
@[simp] theorem stamp_mode (now : Time) (s : State) : (stamp now s).mode = s.mode := rfl
@[simp] theorem stamp_stopped (now : Time) (s : State) : (stamp now s).stopped = s.stopped := rfl
@[simp] theorem stamp_events (now : Time) (s : State) : (stamp now s).events = s.events := rfl
@[simp] theorem stamp_txLine (now : Time) (s : State) : (stamp now s).txLine = s.txLine := rfl
@[simp] theorem stamp_emitAnswers (now : Time) (s : State) : (stamp now s).emitAnswers = s.emitAnswers := rfl
@[simp] theorem stamp_agenda (now : Time) (s : State) : (stamp now s).agenda = s.agenda := rfl
@[simp] theorem stamp_rxPlan (now : Time) (s : State) : (stamp now s).rxPlan = s.rxPlan := rfl
@[simp] theorem stamp_txPlan (now : Time) (s : State) : (stamp now s).txPlan = s.txPlan := rfl
@[simp] theorem stamp_result (now : Time) (s : State) : (stamp now s).result = s.result := rfl
@[simp] theorem stamp_freeCount (now : Time) (s : State) : (stamp now s).freeCount = s.freeCount := rfl

/-! `sendBuild`. -/

@[simp] theorem sendBuild_rxBuf (s : State) : (sendBuild s).rxBuf = s.rxBuf := rfl
@[simp] theorem sendBuild_lastReceiveMs (s : State) : (sendBuild s).lastReceiveMs = s.lastReceiveMs := rfl
@[simp] theorem sendBuild_lastChannelsMs (s : State) : (sendBuild s).lastChannelsMs = s.lastChannelsMs := rfl
@[simp] theorem sendBuild_linkUp (s : State) : (sendBuild s).linkUp = s.linkUp := rfl
@[simp] theorem sendBuild_ch (s : State) : (sendBuild s).ch = s.ch := rfl
@[simp] theorem sendBuild_gps (s : State) : (sendBuild s).gps = s.gps := rfl
@[simp] theorem sendBuild_bat (s : State) : (sendBuild s).bat = s.bat := rfl
@[simp] theorem sendBuild_att (s : State) : (sendBuild s).att = s.att := rfl
@[simp] theorem sendBuild_linkstat (s : State) : (sendBuild s).linkstat = s.linkstat := rfl
@[simp] theorem sendBuild_fm (s : State) : (sendBuild s).fm = s.fm := rfl
@[simp] theorem sendBuild_lastTxMs (s : State) : (sendBuild s).lastTxMs = s.lastTxMs := rfl
@[simp] theorem sendBuild_txInflight (s : State) : (sendBuild s).txInflight = .built (rcFrame s.ch) := rfl
@[simp] theorem sendBuild_ignoreTel (s : State) : (sendBuild s).ignoreTel = s.ignoreTel := rfl
@[simp] theorem sendBuild_mode (s : State) : (sendBuild s).mode = s.mode := rfl
@[simp] theorem sendBuild_stopped (s : State) : (sendBuild s).stopped = s.stopped := rfl
@[simp] theorem sendBuild_events (s : State) : (sendBuild s).events = s.events := rfl
@[simp] theorem sendBuild_txLine (s : State) : (sendBuild s).txLine = s.txLine := rfl
@[simp] theorem sendBuild_emitAnswers (s : State) : (sendBuild s).emitAnswers = s.emitAnswers := rfl
@[simp] theorem sendBuild_agenda (s : State) : (sendBuild s).agenda = s.agenda := rfl
@[simp] theorem sendBuild_rxPlan (s : State) : (sendBuild s).rxPlan = s.rxPlan := rfl
@[simp] theorem sendBuild_txPlan (s : State) : (sendBuild s).txPlan = s.txPlan := rfl
@[simp] theorem sendBuild_result (s : State) : (sendBuild s).result = s.result := rfl
@[simp] theorem sendBuild_freeCount (s : State) : (sendBuild s).freeCount = s.freeCount := rfl

/-! `setMode`. -/

@[simp] theorem setMode_rxBuf (m : Mode) (s : State) : (setMode m s).rxBuf = s.rxBuf := rfl
@[simp] theorem setMode_lastReceiveMs (m : Mode) (s : State) : (setMode m s).lastReceiveMs = s.lastReceiveMs := rfl
@[simp] theorem setMode_lastChannelsMs (m : Mode) (s : State) : (setMode m s).lastChannelsMs = s.lastChannelsMs := rfl
@[simp] theorem setMode_linkUp (m : Mode) (s : State) : (setMode m s).linkUp = s.linkUp := rfl
@[simp] theorem setMode_ch (m : Mode) (s : State) : (setMode m s).ch = s.ch := rfl
@[simp] theorem setMode_gps (m : Mode) (s : State) : (setMode m s).gps = s.gps := rfl
@[simp] theorem setMode_bat (m : Mode) (s : State) : (setMode m s).bat = s.bat := rfl
@[simp] theorem setMode_att (m : Mode) (s : State) : (setMode m s).att = s.att := rfl
@[simp] theorem setMode_linkstat (m : Mode) (s : State) : (setMode m s).linkstat = s.linkstat := rfl
@[simp] theorem setMode_fm (m : Mode) (s : State) : (setMode m s).fm = s.fm := rfl
@[simp] theorem setMode_lastTxMs (m : Mode) (s : State) : (setMode m s).lastTxMs = s.lastTxMs := rfl
@[simp] theorem setMode_txInflight (m : Mode) (s : State) : (setMode m s).txInflight = s.txInflight := rfl
@[simp] theorem setMode_ignoreTel (m : Mode) (s : State) : (setMode m s).ignoreTel = s.ignoreTel := rfl
@[simp] theorem setMode_mode (m : Mode) (s : State) : (setMode m s).mode = m := rfl
@[simp] theorem setMode_stopped (m : Mode) (s : State) : (setMode m s).stopped = s.stopped := rfl
@[simp] theorem setMode_events (m : Mode) (s : State) : (setMode m s).events = s.events := rfl
@[simp] theorem setMode_txLine (m : Mode) (s : State) : (setMode m s).txLine = s.txLine := rfl
@[simp] theorem setMode_emitAnswers (m : Mode) (s : State) : (setMode m s).emitAnswers = s.emitAnswers := rfl
@[simp] theorem setMode_agenda (m : Mode) (s : State) : (setMode m s).agenda = s.agenda := rfl
@[simp] theorem setMode_rxPlan (m : Mode) (s : State) : (setMode m s).rxPlan = s.rxPlan := rfl
@[simp] theorem setMode_txPlan (m : Mode) (s : State) : (setMode m s).txPlan = s.txPlan := rfl
@[simp] theorem setMode_result (m : Mode) (s : State) : (setMode m s).result = s.result := rfl
@[simp] theorem setMode_freeCount (m : Mode) (s : State) : (setMode m s).freeCount = s.freeCount := rfl

/-! `setIgnoreTel`. -/

@[simp] theorem setIgnoreTel_rxBuf (v : Bool) (s : State) : (setIgnoreTel v s).rxBuf = s.rxBuf := rfl
@[simp] theorem setIgnoreTel_lastReceiveMs (v : Bool) (s : State) : (setIgnoreTel v s).lastReceiveMs = s.lastReceiveMs := rfl
@[simp] theorem setIgnoreTel_lastChannelsMs (v : Bool) (s : State) : (setIgnoreTel v s).lastChannelsMs = s.lastChannelsMs := rfl
@[simp] theorem setIgnoreTel_linkUp (v : Bool) (s : State) : (setIgnoreTel v s).linkUp = s.linkUp := rfl
@[simp] theorem setIgnoreTel_ch (v : Bool) (s : State) : (setIgnoreTel v s).ch = s.ch := rfl
@[simp] theorem setIgnoreTel_gps (v : Bool) (s : State) : (setIgnoreTel v s).gps = s.gps := rfl
@[simp] theorem setIgnoreTel_bat (v : Bool) (s : State) : (setIgnoreTel v s).bat = s.bat := rfl
@[simp] theorem setIgnoreTel_att (v : Bool) (s : State) : (setIgnoreTel v s).att = s.att := rfl
@[simp] theorem setIgnoreTel_linkstat (v : Bool) (s : State) : (setIgnoreTel v s).linkstat = s.linkstat := rfl
@[simp] theorem setIgnoreTel_fm (v : Bool) (s : State) : (setIgnoreTel v s).fm = s.fm := rfl
@[simp] theorem setIgnoreTel_lastTxMs (v : Bool) (s : State) : (setIgnoreTel v s).lastTxMs = s.lastTxMs := rfl
@[simp] theorem setIgnoreTel_txInflight (v : Bool) (s : State) : (setIgnoreTel v s).txInflight = s.txInflight := rfl
@[simp] theorem setIgnoreTel_ignoreTel (v : Bool) (s : State) : (setIgnoreTel v s).ignoreTel = v := rfl
@[simp] theorem setIgnoreTel_mode (v : Bool) (s : State) : (setIgnoreTel v s).mode = s.mode := rfl
@[simp] theorem setIgnoreTel_stopped (v : Bool) (s : State) : (setIgnoreTel v s).stopped = s.stopped := rfl
@[simp] theorem setIgnoreTel_events (v : Bool) (s : State) : (setIgnoreTel v s).events = s.events := rfl
@[simp] theorem setIgnoreTel_txLine (v : Bool) (s : State) : (setIgnoreTel v s).txLine = s.txLine := rfl
@[simp] theorem setIgnoreTel_emitAnswers (v : Bool) (s : State) : (setIgnoreTel v s).emitAnswers = s.emitAnswers := rfl
@[simp] theorem setIgnoreTel_agenda (v : Bool) (s : State) : (setIgnoreTel v s).agenda = s.agenda := rfl
@[simp] theorem setIgnoreTel_rxPlan (v : Bool) (s : State) : (setIgnoreTel v s).rxPlan = s.rxPlan := rfl
@[simp] theorem setIgnoreTel_txPlan (v : Bool) (s : State) : (setIgnoreTel v s).txPlan = s.txPlan := rfl
@[simp] theorem setIgnoreTel_result (v : Bool) (s : State) : (setIgnoreTel v s).result = s.result := rfl
@[simp] theorem setIgnoreTel_freeCount (v : Bool) (s : State) : (setIgnoreTel v s).freeCount = s.freeCount := rfl

/-! `stop`. -/

@[simp] theorem stop_rxBuf (s : State) : (stop s).rxBuf = s.rxBuf := rfl
@[simp] theorem stop_lastReceiveMs (s : State) : (stop s).lastReceiveMs = s.lastReceiveMs := rfl
@[simp] theorem stop_lastChannelsMs (s : State) : (stop s).lastChannelsMs = s.lastChannelsMs := rfl
@[simp] theorem stop_linkUp (s : State) : (stop s).linkUp = s.linkUp := rfl
@[simp] theorem stop_ch (s : State) : (stop s).ch = s.ch := rfl
@[simp] theorem stop_gps (s : State) : (stop s).gps = s.gps := rfl
@[simp] theorem stop_bat (s : State) : (stop s).bat = s.bat := rfl
@[simp] theorem stop_att (s : State) : (stop s).att = s.att := rfl
@[simp] theorem stop_linkstat (s : State) : (stop s).linkstat = s.linkstat := rfl
@[simp] theorem stop_fm (s : State) : (stop s).fm = s.fm := rfl
@[simp] theorem stop_lastTxMs (s : State) : (stop s).lastTxMs = s.lastTxMs := rfl
@[simp] theorem stop_txInflight (s : State) : (stop s).txInflight = s.txInflight := rfl
@[simp] theorem stop_ignoreTel (s : State) : (stop s).ignoreTel = s.ignoreTel := rfl
@[simp] theorem stop_mode (s : State) : (stop s).mode = s.mode := rfl
@[simp] theorem stop_stopped (s : State) : (stop s).stopped = true := rfl
@[simp] theorem stop_events (s : State) : (stop s).events = s.events := rfl
@[simp] theorem stop_txLine (s : State) : (stop s).txLine = s.txLine := rfl
@[simp] theorem stop_emitAnswers (s : State) : (stop s).emitAnswers = s.emitAnswers := rfl
@[simp] theorem stop_agenda (s : State) : (stop s).agenda = s.agenda := rfl
@[simp] theorem stop_rxPlan (s : State) : (stop s).rxPlan = s.rxPlan := rfl
@[simp] theorem stop_txPlan (s : State) : (stop s).txPlan = s.txPlan := rfl
@[simp] theorem stop_result (s : State) : (stop s).result = s.result := rfl
@[simp] theorem stop_freeCount (s : State) : (stop s).freeCount = s.freeCount := rfl

end Sys2Proof.Machine.Ops

namespace Sys2Proof.Machine.Agents

/-! `setPlan`. -/

@[simp] theorem setPlan_rxBuf (a : Engine) (ts : List Task) (s : State) : (setPlan a ts s).rxBuf = s.rxBuf := by cases a <;> rfl
@[simp] theorem setPlan_lastReceiveMs (a : Engine) (ts : List Task) (s : State) : (setPlan a ts s).lastReceiveMs = s.lastReceiveMs := by cases a <;> rfl
@[simp] theorem setPlan_lastChannelsMs (a : Engine) (ts : List Task) (s : State) : (setPlan a ts s).lastChannelsMs = s.lastChannelsMs := by cases a <;> rfl
@[simp] theorem setPlan_linkUp (a : Engine) (ts : List Task) (s : State) : (setPlan a ts s).linkUp = s.linkUp := by cases a <;> rfl
@[simp] theorem setPlan_ch (a : Engine) (ts : List Task) (s : State) : (setPlan a ts s).ch = s.ch := by cases a <;> rfl
@[simp] theorem setPlan_gps (a : Engine) (ts : List Task) (s : State) : (setPlan a ts s).gps = s.gps := by cases a <;> rfl
@[simp] theorem setPlan_bat (a : Engine) (ts : List Task) (s : State) : (setPlan a ts s).bat = s.bat := by cases a <;> rfl
@[simp] theorem setPlan_att (a : Engine) (ts : List Task) (s : State) : (setPlan a ts s).att = s.att := by cases a <;> rfl
@[simp] theorem setPlan_linkstat (a : Engine) (ts : List Task) (s : State) : (setPlan a ts s).linkstat = s.linkstat := by cases a <;> rfl
@[simp] theorem setPlan_fm (a : Engine) (ts : List Task) (s : State) : (setPlan a ts s).fm = s.fm := by cases a <;> rfl
@[simp] theorem setPlan_lastTxMs (a : Engine) (ts : List Task) (s : State) : (setPlan a ts s).lastTxMs = s.lastTxMs := by cases a <;> rfl
@[simp] theorem setPlan_txInflight (a : Engine) (ts : List Task) (s : State) : (setPlan a ts s).txInflight = s.txInflight := by cases a <;> rfl
@[simp] theorem setPlan_ignoreTel (a : Engine) (ts : List Task) (s : State) : (setPlan a ts s).ignoreTel = s.ignoreTel := by cases a <;> rfl
@[simp] theorem setPlan_mode (a : Engine) (ts : List Task) (s : State) : (setPlan a ts s).mode = s.mode := by cases a <;> rfl
@[simp] theorem setPlan_stopped (a : Engine) (ts : List Task) (s : State) : (setPlan a ts s).stopped = s.stopped := by cases a <;> rfl
@[simp] theorem setPlan_events (a : Engine) (ts : List Task) (s : State) : (setPlan a ts s).events = s.events := by cases a <;> rfl
@[simp] theorem setPlan_txLine (a : Engine) (ts : List Task) (s : State) : (setPlan a ts s).txLine = s.txLine := by cases a <;> rfl
@[simp] theorem setPlan_emitAnswers (a : Engine) (ts : List Task) (s : State) : (setPlan a ts s).emitAnswers = s.emitAnswers := by cases a <;> rfl
@[simp] theorem setPlan_agenda (a : Engine) (ts : List Task) (s : State) : (setPlan a ts s).agenda = s.agenda := by cases a <;> rfl
@[simp] theorem setPlan_result (a : Engine) (ts : List Task) (s : State) : (setPlan a ts s).result = s.result := by cases a <;> rfl
@[simp] theorem setPlan_freeCount (a : Engine) (ts : List Task) (s : State) : (setPlan a ts s).freeCount = s.freeCount := by cases a <;> rfl
@[simp] theorem planOf_setPlan (a : Engine) (ts : List Task) (s : State) : planOf a (setPlan a ts s) = ts := by cases a <;> rfl

end Sys2Proof.Machine.Agents
end

