-- ==== Sys2Proof/Laws/Ops.lean ====
section
/-! SUPPORT. One lemma for each shared operation that says once what it can do, and the laws of the receive buffer. -/

namespace Sys2Proof

/-- What FRAME_CHECK's verdict tells of the buffer (40_frame_codec.md R92). -/
theorem frameCheck_waitHdr {buf : List Byte} (h : frameCheck buf = .waitHdr) : buf.length < 2 := by
  unfold frameCheck at h
  simp only [Config.lenMin, Config.lenMax] at h
  split at h
  · assumption
  · split_ifs at h

theorem frameCheck_resync {buf : List Byte} (h : frameCheck buf = .resync) :
    2 ≤ buf.length ∧ ((byteAt buf 1).toNat < 3 ∨ 62 < (byteAt buf 1).toNat) := by
  unfold frameCheck at h
  simp only [Config.lenMin, Config.lenMax] at h
  split_ifs at h with h1 h2
  exact ⟨by omega, h2⟩

theorem frameCheck_waitBody {buf : List Byte} {L : Nat} (h : frameCheck buf = .waitBody L) :
    2 ≤ buf.length ∧ L = (byteAt buf 1).toNat ∧ 3 ≤ L ∧ L ≤ 62 ∧ buf.length < L + 2 := by
  unfold frameCheck at h
  simp only [Config.lenMin, Config.lenMax] at h
  split_ifs at h with h1 h2 h3
  cases h
  exact ⟨by omega, rfl, by omega, by omega, h3⟩

theorem frameCheck_crcOk {buf : List Byte} {L : Nat} (h : frameCheck buf = .crcOk L) :
    L = (byteAt buf 1).toNat ∧ 3 ≤ L ∧ L ≤ 62 ∧ L + 2 ≤ buf.length ∧
      crc8 ((buf.drop 2).take (L - 1)) = byteAt buf (L + 1) := by
  unfold frameCheck at h
  simp only [Config.lenMin, Config.lenMax] at h
  split_ifs at h with h1 h2 h3 h4
  cases h
  exact ⟨rfl, by omega, by omega, by omega, h4⟩

theorem frameCheck_crcBad {buf : List Byte} {L : Nat} (h : frameCheck buf = .crcBad L) :
    L = (byteAt buf 1).toNat ∧ 3 ≤ L ∧ L ≤ 62 ∧ L + 2 ≤ buf.length ∧
      crc8 ((buf.drop 2).take (L - 1)) ≠ byteAt buf (L + 1) := by
  unfold frameCheck at h
  simp only [Config.lenMin, Config.lenMax] at h
  split_ifs at h with h1 h2 h3 h4
  cases h
  exact ⟨rfl, by omega, by omega, by omega, h4⟩

/-- The payload of an accepted frame has `L - 2` bytes, at most 60 (30_encoding.md R61). -/
theorem framePayload_length {buf : List Byte} {L : Nat} (h : frameCheck buf = .crcOk L) :
    (framePayload buf L).length = L - 2 := by
  have := frameCheck_crcOk h
  simp only [framePayload, List.length_take, List.length_drop]
  omega

end Sys2Proof

namespace Sys2Proof.Machine

/-! The receive buffer keeps its canonical form. -/

theorem Memory.wf_nil : Memory.wf [] = true := rfl

theorem Memory.wf_iff (m : Memory) : m.wf = true ↔ m.length ≤ 64 := by simp [Memory.wf]

theorem Memory.read_append_same (m : Memory) (b : Byte) : Memory.read (m ++ [b]) m.length = some b := by
  simp [Memory.read]

theorem Memory.read_append_other (m : Memory) (b : Byte) (a : Nat) (h : a < m.length) :
    Memory.read (m ++ [b]) a = m.read a := by
  simp only [Memory.read]
  exact List.getElem?_append_left h

theorem Memory.read_shift (m : Memory) (n a : Nat) : Memory.read (m.drop n) a = m.read (a + n) := by
  simp only [Memory.read, List.getElem?_drop, Nat.add_comm]

theorem Ops.shift_wf (n : Nat) (s : State) (h : s.rxBuf.wf = true) : (Ops.shift n s).rxBuf.wf = true := by
  simp only [Memory.wf_iff, Ops.shift_rxBuf, List.length_drop] at *
  omega

theorem Ops.append_wf (b : Byte) (s : State) (h : s.rxBuf.length < 64) : (Ops.append b s).rxBuf.wf = true := by
  simp only [Memory.wf_iff, Ops.append_rxBuf, List.length_append, List.length_singleton]
  omega

/-! What each operation can do. -/

/-- RXB either empties a full buffer or appends the byte; either way it stamps the time (42 R116). -/
theorem Ops.rxb_cases (b : Byte) (t : Time) (s : State) :
    (s.rxBuf.length = 64 ∧ Ops.rxb b t s = { s with lastReceiveMs := t, rxBuf := [], events := s.events ++ [.rxOverflow] }) ∨
    (s.rxBuf.length ≠ 64 ∧ Ops.rxb b t s = { s with lastReceiveMs := t, rxBuf := s.rxBuf ++ [b] }) := by
  by_cases h : s.rxBuf.length = 64
  · exact .inl ⟨h, by simp [Ops.rxb, State.rxLen, h, Ops.raise]⟩
  · exact .inr ⟨h, by simp [Ops.rxb, State.rxLen, h, Ops.append]⟩

theorem Ops.rxb_wf (b : Byte) (t : Time) (s : State) (h : s.rxBuf.wf = true) : (Ops.rxb b t s).rxBuf.wf = true := by
  rcases Ops.rxb_cases b t s with ⟨_, e⟩ | ⟨h1, e⟩
  · rw [e]; rfl
  · rw [e]
    simp only [Memory.wf_iff, List.length_append, List.length_singleton] at *
    omega

/-- A typed frame is dropped if short, else it writes its own group and nothing else (43 R136 to R144). -/
theorem Ops.typedFrame_cases (k : Kind) (p : List Byte) (now : Time) (s : State) :
    (p.length < k.need ∧ Ops.typedFrame k p now s = Ops.raise .shortPayload s) ∨
    (k.need ≤ p.length ∧
      ((k = .rc ∧ Ops.typedFrame k p now s = Ops.acceptRc p now s) ∨
       (k = .gps ∧ Ops.typedFrame k p now s = { s with gps := Ops.gpsOf p }) ∨
       (k = .batt ∧ Ops.typedFrame k p now s = { s with bat := Ops.batteryOf p }) ∨
       (k = .linkstat ∧ Ops.typedFrame k p now s = { s with linkstat := Ops.linkStatOf p }) ∨
       (k = .att ∧ Ops.typedFrame k p now s = { s with att := Ops.attitudeOf p }) ∨
       (k = .fmode ∧ Ops.typedFrame k p now s = { s with fm := ⟨p, true⟩ }))) := by
  by_cases h : p.length < k.need
  · exact .inl ⟨h, by simp [Ops.typedFrame, h]⟩
  · refine .inr ⟨by omega, ?_⟩
    cases k <;> simp [Ops.typedFrame, h]

/-- What an accepted RC-channels frame does (43 R136). -/
theorem Ops.acceptRc_eq (p : List Byte) (now : Time) (s : State) :
    Ops.acceptRc p now s =
      { s with ch := unpackChannels (p.take 22), linkUp := true, lastChannelsMs := now,
               events := s.events ++ ((if s.linkUp then [] else [.onLinkUp]) ++ [.onChannels]) } := by
  cases h : s.linkUp <;> simp [Ops.acceptRc, Ops.raise, h]

/-- One pass of the CONSUME loop (42 R117 to R122). -/
theorem Ops.consumePass_cases (now : Time) (s : State) :
    (frameCheck s.rxBuf = .waitHdr ∧ Ops.consumePass now s = (s, false)) ∨
    (frameCheck s.rxBuf = .resync ∧ Ops.consumePass now s = (Ops.resync s, true)) ∨
    (∃ L, frameCheck s.rxBuf = .waitBody L ∧ Ops.consumePass now s = (s, false)) ∨
    (∃ L, frameCheck s.rxBuf = .crcOk L ∧ Ops.consumePass now s = (Ops.crcOk L now s, true)) ∨
    (∃ L, frameCheck s.rxBuf = .crcBad L ∧ Ops.consumePass now s = (Ops.crcBad L s, true)) := by
  cases h : frameCheck s.rxBuf <;> simp [Ops.consumePass, h]

/-- LDN either lowers the link with its strobe or does nothing (42 R125). -/
theorem Ops.ldn_cases (now : Time) (s : State) :
    (linkTimedOut s now = true ∧ Ops.ldn now s = { s with events := s.events ++ [.onLinkDown], linkUp := false }) ∨
    (linkTimedOut s now = false ∧ Ops.ldn now s = s) := by
  cases h : linkTimedOut s now
  · exact .inr ⟨rfl, by simp [Ops.ldn, h]⟩
  · exact .inl ⟨rfl, by simp [Ops.ldn, h, Ops.raise]⟩

/-- SEND_GATE passes a built frame or drops it (45 R167). -/
theorem Ops.sendGate_cases (s : State) :
    (∃ f, s.txInflight = .built f ∧ gateOpen s = true ∧ Ops.sendGate s = { s with txInflight := .passed f }) ∨
    (∃ f, s.txInflight = .built f ∧ gateOpen s = false ∧
      Ops.sendGate s = { s with txInflight := .none, events := s.events ++ [.txGated] }) ∨
    ((∀ f, s.txInflight ≠ .built f) ∧ Ops.sendGate s = s) := by
  cases h : s.txInflight <;> cases g : gateOpen s <;> simp [Ops.sendGate, h, g, Ops.raise]

/-- SEND_EMIT puts a passed frame on the line, whole or in part, and in either case nothing stays in flight (45 R168). -/
theorem Ops.sendEmit_cases (s : State) :
    (∃ f as n, s.txInflight = .passed f ∧
      Ops.sendEmit s = { s with txInflight := .none, txLine := s.txLine ++ [.frame f], emitAnswers := as, freeCount := n }) ∨
    (∃ f as n m, s.txInflight = .passed f ∧
      Ops.sendEmit s = { s with txInflight := .none, txLine := s.txLine ++ [.partialFrame (Ops.keptPart f m)], emitAnswers := as,
                                freeCount := n, events := s.events ++ [.transportWriteErr] }) ∨
    ((∀ f, s.txInflight ≠ .passed f) ∧ Ops.sendEmit s = s) := by
  cases h : s.txInflight with
  | none => simp [Ops.sendEmit, h]
  | built f => simp [Ops.sendEmit, h]
  | passed f =>
    rcases e : Ops.nextAnswer s with ⟨a, s'⟩
    have hs : ∃ as n, s' = { s with emitAnswers := as, freeCount := n } := by
      unfold Ops.nextAnswer at e
      split at e <;> (cases e; exact ⟨_, _, rfl⟩)
    obtain ⟨as, n, rfl⟩ := hs
    cases a with
    | accepted => exact .inl ⟨f, as, n, rfl, by simp [Ops.sendEmit, h, e]⟩
    | failed => exact .inr (.inl ⟨f, as, n + 1, n, rfl, by simp [Ops.sendEmit, h, e, Ops.raise, Ops.countFree]⟩)

/-- A failed emit leaves less than the frame on the line (20_memory.md R45, 93 U5). -/
theorem Ops.keptPart_lt (f : List Byte) (n : Nat) (h : f ≠ []) : (Ops.keptPart f n).length < f.length := by
  have : 0 < f.length := List.length_pos_iff.mpr h
  have := Nat.mod_lt (Config.freeKept n) this
  simp only [Ops.keptPart, List.length_take]
  omega

/-- TICK sends if the period is over, else it does nothing (45 R165). -/
theorem Ops.tick_cases (now : Time) (s : State) :
    (sendDue s now = true ∧ Ops.tick now s = Ops.send now s) ∨ (sendDue s now = false ∧ Ops.tick now s = s) := by
  cases h : sendDue s now <;> simp [Ops.tick, h]

/-- CH_SET writes one element or nothing (44 R156). -/
theorem Ops.chSet_cases (k : Int) (us : Chan) (s : State) :
    (∃ i, channelIndex k = some i ∧ Ops.chSet k us s = { s with ch := s.ch.set i us }) ∨
    (channelIndex k = none ∧ Ops.chSet k us s = s) := by
  cases h : channelIndex k <;> simp [Ops.chSet, h]

/-- JOY_AXIS is one CH_SET or nothing (46 R186, R187). -/
theorem Ops.joyAxis_cases (axis : Byte) (a : BitVec 16) (s : State) :
    (∃ k v, s.mode = .joystick ∧ Ops.joyTarget axis a = some (k, v) ∧
      Ops.joyAxis axis a s = Ops.chSet k (BitVec.ofInt 32 (joyMap v)) s) ∨ Ops.joyAxis axis a s = s := by
  cases h : s.mode <;> rcases e : Ops.joyTarget axis a with _ | ⟨k, v⟩ <;> simp [Ops.joyAxis, h, e]

/-- An agent's operation in a running block, and in a stopped one. -/
theorem Ops.whenRunning_run (s s' : State) (h : s.stopped = false) : Ops.whenRunning s s' = s' := by
  simp [Ops.whenRunning, h]

theorem Ops.whenRunning_stopped (s s' : State) (h : s.stopped = true) : Ops.whenRunning s s' = s := by
  simp [Ops.whenRunning, h]

end Sys2Proof.Machine
end

