-- ==== Sys2Proof/Laws/Loops.lean ====
section
/-! SUPPORT. DISPATCH, CONSUME and TMO: what one pass does, that every pass that goes on removes a byte, and the loops without their bound. -/

namespace Sys2Proof.Machine

/-- DISPATCH drops a foreign or unknown frame, or it is the handler of the type (43 R135). -/
theorem Ops.dispatchBy_cases (m : Config.TypeMap) (addr ty : Byte) (p : List Byte) (now : Time) (s : State) :
    (addr ≠ 0xC8 ∧ Ops.dispatchBy m addr ty p now s = Ops.raise .foreignAddr s) ∨
    (addr = 0xC8 ∧ kindOf m ty = none ∧ Ops.dispatchBy m addr ty p now s = Ops.raise .unknownType s) ∨
    (∃ k, addr = 0xC8 ∧ kindOf m ty = some k ∧ Ops.dispatchBy m addr ty p now s = Ops.typedFrame k p now s) := by
  by_cases h : addr = 0xC8
  · cases hk : kindOf m ty <;> simp [Ops.dispatchBy, h, hk]
  · exact .inl ⟨h, by rw [Ops.dispatchBy, if_pos h]⟩

/-- What any dispatched frame leaves as it was, and how its history grows (43 R145). -/
theorem Ops.typedFrame_frame (k : Kind) (p : List Byte) (now : Time) (s : State) :
    ∃ cs g b a l f up lc es, Ops.typedFrame k p now s =
      { s with ch := cs, gps := g, bat := b, att := a, linkstat := l, fm := f, linkUp := up, lastChannelsMs := lc, events := s.events ++ es } := by
  refine ⟨(Ops.typedFrame k p now s).ch, (Ops.typedFrame k p now s).gps, (Ops.typedFrame k p now s).bat, (Ops.typedFrame k p now s).att,
    (Ops.typedFrame k p now s).linkstat, (Ops.typedFrame k p now s).fm, (Ops.typedFrame k p now s).linkUp,
    (Ops.typedFrame k p now s).lastChannelsMs, (Ops.typedFrame k p now s).events.drop s.events.length, ?_⟩
  rcases Ops.typedFrame_cases k p now s with ⟨_, e⟩ | ⟨_, h⟩
  · rw [e]; simp [Ops.raise]
  · rcases h with ⟨_, e⟩ | ⟨_, e⟩ | ⟨_, e⟩ | ⟨_, e⟩ | ⟨_, e⟩ | ⟨_, e⟩ <;> rw [e] <;> simp [Ops.acceptRc_eq]

/-- The same for DISPATCH. -/
theorem Ops.dispatch_frame (addr ty : Byte) (p : List Byte) (now : Time) (s : State) :
    ∃ cs g b a l f up lc es, Ops.dispatch addr ty p now s =
      { s with ch := cs, gps := g, bat := b, att := a, linkstat := l, fm := f, linkUp := up, lastChannelsMs := lc, events := s.events ++ es } := by
  rcases Ops.dispatchBy_cases Config.types addr ty p now s with ⟨_, e⟩ | ⟨_, _, e⟩ | ⟨k, _, _, e⟩
  · exact ⟨s.ch, s.gps, s.bat, s.att, s.linkstat, s.fm, s.linkUp, s.lastChannelsMs, [.foreignAddr], by rw [Ops.dispatch, e]; rfl⟩
  · exact ⟨s.ch, s.gps, s.bat, s.att, s.linkstat, s.fm, s.linkUp, s.lastChannelsMs, [.unknownType], by rw [Ops.dispatch, e]; rfl⟩
  · rw [Ops.dispatch, e]; exact Ops.typedFrame_frame k p now s

/-- How far a pass moves the buffer on: nothing while it waits, one byte on RESYNC, the frame otherwise (42 R118 to R122). -/
theorem Ops.consumePass_rxBuf (now : Time) (s : State) :
    (Ops.consumePass now s).1.rxBuf = match frameCheck s.rxBuf with
      | .waitHdr => s.rxBuf
      | .resync => s.rxBuf.drop 1
      | .waitBody _ => s.rxBuf
      | .crcOk L => s.rxBuf.drop (L + 2)
      | .crcBad L => s.rxBuf.drop (L + 2) := by
  cases h : frameCheck s.rxBuf with
  | waitHdr => simp [Ops.consumePass, h]
  | resync => simp [Ops.consumePass, h, Ops.resync, Ops.raise, Ops.shift]
  | waitBody L => simp [Ops.consumePass, h]
  | crcBad L => simp [Ops.consumePass, h, Ops.crcBad, Ops.raise, Ops.shift]
  | crcOk L =>
    simp only [Ops.consumePass, h, Ops.crcOk, Ops.shift]
    obtain ⟨_, _, _, _, _, _, _, _, _, e⟩ := Ops.dispatch_frame (byteAt s.rxBuf 0) (byteAt s.rxBuf 2) (framePayload s.rxBuf L) now
      (Ops.raise .frameOk s)
    rw [e]; rfl

/-- A pass that goes on removes at least one byte. -/
theorem Ops.consumePass_shorter (now : Time) (s : State) (h : (Ops.consumePass now s).2 = true) :
    (Ops.consumePass now s).1.rxLen < s.rxLen := by
  rw [State.rxLen, Ops.consumePass_rxBuf, State.rxLen]
  cases hv : frameCheck s.rxBuf with
  | waitHdr => simp [Ops.consumePass, hv] at h
  | waitBody L => simp [Ops.consumePass, hv] at h
  | resync => have := frameCheck_resync hv; simp only [List.length_drop]; omega
  | crcOk L => have := frameCheck_crcOk hv; simp only [List.length_drop]; omega
  | crcBad L => have := frameCheck_crcBad hv; simp only [List.length_drop]; omega

/-- The loop answers the same for every bound above the number of bytes. -/
theorem Ops.consumeLoop_enough (now : Time) : ∀ (n m : Nat) (s : State), s.rxLen < n → s.rxLen < m →
    Ops.consumeLoop n now s = Ops.consumeLoop m now s
  | 0, _, _, h, _ => by omega
  | _ + 1, 0, _, _, h => by omega
  | n + 1, m + 1, s, hn, hm => by
    rcases e : Ops.consumePass now s with ⟨s', b⟩
    cases b with
    | false => simp [Ops.consumeLoop, e]
    | true =>
      have h := Ops.consumePass_shorter now s (by rw [e])
      rw [e] at h
      simp only [Ops.consumeLoop, e]
      exact Ops.consumeLoop_enough now n m s' (by simp at h; omega) (by simp at h; omega)

/-- CONSUME is one pass, then CONSUME again if the pass goes on (42 R117). -/
theorem Ops.consume_unfold (now : Time) (s : State) :
    Ops.consume now s = if (Ops.consumePass now s).2 then Ops.consume now (Ops.consumePass now s).1 else (Ops.consumePass now s).1 := by
  rcases e : Ops.consumePass now s with ⟨s', b⟩
  cases b with
  | false => simp [Ops.consume, Ops.consumeLoop, e]
  | true =>
    have h := Ops.consumePass_shorter now s (by rw [e])
    rw [e] at h
    have : Ops.consume now s = Ops.consumeLoop s.rxLen now s' := by simp only [Ops.consume, Ops.consumeLoop, e]
    rw [this, if_pos rfl]
    exact Ops.consumeLoop_enough now _ _ s' h (Nat.lt_succ_self _)

/-- What holds of a state and survives every pass of CONSUME holds after CONSUME (42 R117). -/
theorem Ops.consume_induction (now : Time) (P : State → Prop) (pass : ∀ s, P s → P (Ops.consumePass now s).1) (s : State) (h : P s) :
    P (Ops.consume now s) := by
  have : ∀ (n : Nat) (s : State), P s → P (Ops.consumeLoop n now s) := by
    intro n
    induction n with
    | zero => intro s h; exact h
    | succ n ih =>
      intro s h
      have hp := pass s h
      rcases e : Ops.consumePass now s with ⟨s', b⟩
      rw [e] at hp
      cases b with
      | false => simpa [Ops.consumeLoop, e] using hp
      | true => simpa [Ops.consumeLoop, e] using ih s' hp
  exact this _ s h

/-- CONSUME leaves no more bytes than there were. -/
theorem Ops.consume_rxLen_le (now : Time) (s : State) : (Ops.consume now s).rxLen ≤ s.rxLen := by
  refine Ops.consume_induction now (fun t => t.rxLen ≤ s.rxLen) ?_ s (le_refl _)
  intro t ht
  refine le_trans ?_ ht
  rw [State.rxLen, Ops.consumePass_rxBuf, State.rxLen]
  cases frameCheck t.rxBuf <;> simp

/-- The flush answers the same for every bound from the number of bytes up. -/
theorem Ops.flushLoop_enough (now : Time) : ∀ (n m : Nat) (s : State), s.rxLen ≤ n → s.rxLen ≤ m →
    Ops.flushLoop n now s = Ops.flushLoop m now s
  | 0, 0, _, _, _ => rfl
  | 0, m + 1, s, h, _ => by simp [Ops.flushLoop, Nat.le_zero.mp h]
  | n + 1, 0, s, _, h => by simp [Ops.flushLoop, Nat.le_zero.mp h]
  | n + 1, m + 1, s, hn, hm => by
    by_cases h : 0 < s.rxLen
    · simp only [Ops.flushLoop, h, if_true]
      have h1 := Ops.consume_rxLen_le now (Ops.shift 1 s)
      have h2 : (Ops.shift 1 s).rxLen = s.rxLen - 1 := by simp [State.rxLen, Ops.shift]
      exact Ops.flushLoop_enough now n m _ (by omega) (by omega)
    · simp [Ops.flushLoop, h]

/-- One round of the flush is a byte dropped and a CONSUME, until no byte is left (42 R123). -/
theorem Ops.flush_unfold (now : Time) (s : State) : Ops.flushLoop s.rxLen now s =
    if 0 < s.rxLen then Ops.flushLoop (Ops.consume now (Ops.shift 1 s)).rxLen now (Ops.consume now (Ops.shift 1 s)) else s := by
  by_cases h : 0 < s.rxLen
  · have h1 := Ops.consume_rxLen_le now (Ops.shift 1 s)
    have h2 : (Ops.shift 1 s).rxLen = s.rxLen - 1 := by simp [State.rxLen, Ops.shift]
    obtain ⟨n, hn⟩ : ∃ n, s.rxLen = n + 1 := ⟨s.rxLen - 1, by omega⟩
    rw [if_pos h, hn, Ops.flushLoop, if_pos h]
    exact Ops.flushLoop_enough now _ _ _ (by omega) (le_refl _)
  · rw [if_neg h]
    have : s.rxLen = 0 := by omega
    rw [this]; rfl

end Sys2Proof.Machine
end

