-- ==== Sys2Proof/Laws/PerInstr.lean ====
section
/-! SUPPORT. The family `EncodeForm`: the form in which an operation's invocation reaches the machine is its row's format in spec/opcode_table.json
(30_encoding.md R79), and a call record begins with the row's place in the table. -/

namespace Sys2Proof.Laws.EncodeForm

/-- The form of a row: received frame, transmitted header, line, or a call record with the row's place. -/
inductive Form where
  | frame
  | header
  | line
  | call (row : Byte)
deriving DecidableEq, Repr

/-- The form of encoded bytes. -/
def formOf : Encoded → Option Form
  | .rxFrame _ _ => some .frame
  | .txFrame _ => some .header
  | .line _ _ => some .line
  | .call (b :: _) => some (.call b)
  | .call [] => none

/-- The form of each row. -/
def rowForm : Instr → Form
  | .rc _ _ => .frame
  | .gps _ => .frame
  | .batt _ => .frame
  | .linkstat _ => .frame
  | .att _ => .frame
  | .fmode _ => .frame
  | .shortPayload _ _ => .frame
  | .unknown _ _ => .frame
  | .foreignAddr _ _ _ => .frame
  | .txRc => .header
  | .crc8 _ => .call 10
  | .frameCheck _ _ => .call 11
  | .frameEncode _ _ _ => .call 12
  | .code2usRaw _ => .call 13
  | .code2us _ => .call 14
  | .us2code _ => .call 15
  | .pack _ => .call 16
  | .unpack _ => .call 17
  | .packChannels _ => .call 18
  | .unpackChannels _ => .call 19
  | .attDegrees => .call 20
  | .rxb _ _ => .call 21
  | .consume _ => .call 22
  | .waitHdr => .call 23
  | .resync => .call 24
  | .waitBody => .call 25
  | .crcOk _ => .call 26
  | .crcBad => .call 27
  | .tmo _ => .call 28
  | .ldn _ => .call 29
  | .step _ _ _ => .call 30
  | .dispatch _ _ _ _ => .call 31
  | .chGet _ => .call 32
  | .chSet _ _ => .call 33
  | .chSnapshot => .call 34
  | .tick _ => .call 35
  | .sendBuild => .call 36
  | .sendGate => .call 37
  | .sendEmit => .call 38
  | .send _ => .call 39
  | .forceSend _ => .call 40
  | .schedIter _ _ => .call 41
  | .setMode _ => .call 42
  | .setIgnoreTel _ => .call 43
  | .joyAxis _ _ => .call 44
  | .stop => .call 45
  | .setChannel _ _ => .line
  | .setChannels _ => .line
  | .sendChannels _ => .line
  | .setModeText _ => .line

/-- The invocation of `i` has the form of its row. -/
def Statement (i : Instr) : Prop := formOf (encode i) = some (rowForm i)

theorem rc : ∀ p now, Statement (.rc p now) := by intros; rfl
theorem gps : ∀ p, Statement (.gps p) := by intros; rfl
theorem batt : ∀ p, Statement (.batt p) := by intros; rfl
theorem linkstat : ∀ p, Statement (.linkstat p) := by intros; rfl
theorem att : ∀ p, Statement (.att p) := by intros; rfl
theorem fmode : ∀ p, Statement (.fmode p) := by intros; rfl
theorem shortPayload : ∀ ty p, Statement (.shortPayload ty p) := by intros; rfl
theorem unknown : ∀ ty p, Statement (.unknown ty p) := by intros; rfl
theorem foreignAddr : ∀ addr ty p, Statement (.foreignAddr addr ty p) := by intros; rfl
theorem txRc : Statement (.txRc) := rfl
theorem crc8 : ∀ bs, Statement (.crc8 bs) := by intros; rfl
theorem frameCheck : ∀ buf len, Statement (.frameCheck buf len) := by intros; rfl
theorem frameEncode : ∀ addr ty p, Statement (.frameEncode addr ty p) := by intros; rfl
theorem code2usRaw : ∀ code, Statement (.code2usRaw code) := by intros; rfl
theorem code2us : ∀ code, Statement (.code2us code) := by intros; rfl
theorem us2code : ∀ us, Statement (.us2code us) := by intros; rfl
theorem pack : ∀ codes, Statement (.pack codes) := by intros; rfl
theorem unpack : ∀ p, Statement (.unpack p) := by intros; rfl
theorem packChannels : ∀ us, Statement (.packChannels us) := by intros; rfl
theorem unpackChannels : ∀ p, Statement (.unpackChannels p) := by intros; rfl
theorem attDegrees : Statement (.attDegrees) := rfl
theorem rxb : ∀ b t, Statement (.rxb b t) := by intros; rfl
theorem consume : ∀ now, Statement (.consume now) := by intros; rfl
theorem waitHdr : Statement (.waitHdr) := rfl
theorem resync : Statement (.resync) := rfl
theorem waitBody : Statement (.waitBody) := rfl
theorem crcOk : ∀ now, Statement (.crcOk now) := by intros; rfl
theorem crcBad : Statement (.crcBad) := rfl
theorem tmo : ∀ now, Statement (.tmo now) := by intros; rfl
theorem ldn : ∀ now, Statement (.ldn now) := by intros; rfl
theorem step : ∀ rx fin now, Statement (.step rx fin now) := by intros; rfl
theorem dispatch : ∀ addr ty p now, Statement (.dispatch addr ty p now) := by intros; rfl
theorem chGet : ∀ k, Statement (.chGet k) := by intros; rfl
theorem chSet : ∀ k us, Statement (.chSet k us) := by intros; rfl
theorem chSnapshot : Statement (.chSnapshot) := rfl
theorem tick : ∀ now, Statement (.tick now) := by intros; rfl
theorem sendBuild : Statement (.sendBuild) := rfl
theorem sendGate : Statement (.sendGate) := rfl
theorem sendEmit : Statement (.sendEmit) := rfl
theorem send : ∀ now, Statement (.send now) := by intros; rfl
theorem forceSend : ∀ now, Statement (.forceSend now) := by intros; rfl
theorem schedIter : ∀ inputs now, Statement (.schedIter inputs now) := by intros; rfl
theorem setMode : ∀ m, Statement (.setMode m) := by intros; rfl
theorem setIgnoreTel : ∀ v, Statement (.setIgnoreTel v) := by intros; rfl
theorem joyAxis : ∀ axis a, Statement (.joyAxis axis a) := by intros; rfl
theorem stop : Statement (.stop) := rfl
theorem setChannel : ∀ i us, Statement (.setChannel i us) := by intros; rfl
theorem setChannels : ∀ pairs, Statement (.setChannels pairs) := by intros; rfl
theorem sendChannels : ∀ now, Statement (.sendChannels now) := by intros; rfl
theorem setModeText : ∀ m, Statement (.setModeText m) := by intros; rfl

end Sys2Proof.Laws.EncodeForm
end

