-- ==== Sys2Proof/Laws/Port.lean ====
section
/-! SUPPORT. The host's register port and the beginning of an operation: what a register read, a requested send, a dropped command and an agent's finishing can do. -/

namespace Sys2Proof.Machine

/-- A register read answers a word of the state and changes nothing but the place of the answer, or the number is no register (20_memory.md R53, R54). -/
theorem Ops.busRead_cases (n : Nat) (s : State) :
    (∃ w, Ops.regRead n s = some w ∧ Ops.busRead n s = .next { s with result := .word w }) ∨
    (Ops.regRead n s = none ∧ Ops.busRead n s = .fault (.noSuchRegister n)) := by
  cases h : Ops.regRead n s with
  | some w => exact .inl ⟨w, rfl, by simp [Ops.busRead, h, Ops.answer]⟩
  | none => exact .inr ⟨rfl, by simp [Ops.busRead, h]⟩

/-- The words of a group are those that its registers answer in the same state (20_memory.md R51). -/
theorem Ops.mem_groupRead (g : Group) (s : State) (n : Nat) (w : BitVec 32) :
    (n, w) ∈ Ops.groupRead g s ↔ n ∈ Ops.groupRegisters g ∧ Ops.regRead n s = some w := by
  simp [Ops.groupRead, List.mem_filterMap]

/-- A requested send stands behind the scheduler's steps, and nothing else changes (00_scope.md R5). -/
theorem Ops.requestSend_eq (now : Time) (s : State) (h : s.stopped = false) :
    Ops.requestSend now s = { s with txPlan := s.txPlan ++ [.control .forceSend now] } := by
  simp [Ops.requestSend, h]

/-- A dropped command leaves its label, in a running block only (46 R189). -/
theorem Ops.dropCommand_cases (s : State) :
    (s.stopped = false ∧ Ops.dropCommand s = { s with events := s.events ++ [.cmdReject] }) ∨ (s.stopped = true ∧ Ops.dropCommand s = s) := by
  cases h : s.stopped <;> simp [Ops.dropCommand, Ops.whenRunning, Ops.raise, h]

/-- An agent with nothing left to take has nothing to finish. -/
theorem Agents.finish_idle (a : Engine) (s : State) (h : Agents.planOf a s = []) : Agents.finish a s = s := by
  cases a <;> simp only [Agents.planOf] at h <;> simp only [Agents.finish, Agents.planOf, Agents.setPlan, h, List.foldl_nil] <;> rw [← h]

/-- An operation whose agent is between operations begins in the state as it is. -/
theorem Agents.settle_idle (i : Instr) (s : State) (h : ∀ a, i.engine = some a → Agents.planOf a s = []) : Agents.settle i s = s := by
  unfold Agents.settle
  split
  · rfl
  · split
    · rename_i a e; exact Agents.finish_idle a s (h a e)
    · rfl

/-- An operation without a step changes nothing when it begins. -/
theorem Agents.begin_nil (a : Engine) (s : State) : Agents.begin a [] s = s := by
  cases a <;> simp [Agents.begin, Agents.setPlan, Agents.planOf]

/-- A line whose pairs are all out of range is no operation of an agent and changes nothing (60_exceptions.md R209). -/
theorem Ops.setChannels_rejected (pairs : List (Int × Int)) (s : State) (h : (Instr.setChannels pairs).engine = none) :
    Ops.ingress pairs = [] ∧ Ops.setChannels pairs s = s := by
  have none_in : ∀ q ∈ pairs, inCommandRange q.1 q.2 = false := by simpa [Instr.engine] using h
  have e : Ops.ingress pairs = [] := by
    clear h
    induction pairs with
    | nil => rfl
    | cons q qs ih =>
      simp only [List.forall_mem_cons] at none_in
      simp [Ops.ingress, none_in.1, ih none_in.2]
  exact ⟨e, by simp [Ops.setChannels, Ops.applyControls, e]⟩

/-- In a stopped block an operation begins in the state as it is (46 R188). -/
theorem Agents.settle_stopped (i : Instr) (s : State) (h : s.stopped = true) : Agents.settle i s = s := by
  simp [Agents.settle, h]

end Sys2Proof.Machine
end

