-- ==== Sys2Proof/Tests/Slice0.lean ====
section
/-! SUPPORT. The model's own tests: ill-formed operations refused, every row's decoding from bytes written out from the spec (30_encoding.md R79, the layout
of call records from log 2), one-step tests whose expected values stand in 95_test_vectors.md or in a rule's worked example, and a witness for the hypotheses
of each statement. -/

namespace Sys2Proof.Machine.Tests

/- One theorem after another: so many at once would each take a thread of its own. -/
set_option Elab.async false

/-! Helpers. -/

/-- The next state, if the answer is one. -/
def nextOf : Answer → Option State
  | .next s => some s
  | .fault _ => none
  | .refused _ => none

/-- The fault, if the answer is one. -/
def faultOf : Answer → Option Fault
  | .next _ => none
  | .fault f => some f
  | .refused _ => none

/-- The refusal, if the answer is one. -/
def refusalOf : Answer → Option Refusal
  | .next _ => none
  | .fault _ => none
  | .refused r => some r

/-- One operation. -/
def run (i : Instr) (s : State) : Option State := nextOf (exec i s)

def zeros (n : Nat) : List Byte := List.replicate n 0

/-- The S1 frame (95_test_vectors.md 1.2). -/
def s1 : List Byte := [0xC8, 0x18, 0x16] ++ zeros 22 ++ [0xEF]
/-- The S3 frame: its CRC inverted. -/
def s3 : List Byte := [0xC8, 0x18, 0x16] ++ zeros 22 ++ [0x10]
/-- The payload of sixteen channels at 1500 (41_channel_codec.md R104). -/
def mid : List Byte := [0xE0, 0x03, 0x1F, 0xF8, 0xC0, 0x07, 0x3E, 0xF0, 0x81, 0x0F, 0x7C, 0xE0, 0x03, 0x1F, 0xF8, 0xC0, 0x07, 0x3E, 0xF0, 0x81, 0x0F, 0x7C]
/-- The frame of the reset store (45_send_scheduler.md R166). -/
def midFrame : List Byte := [0xC8, 0x18, 0x16] ++ mid ++ [0xAD]

/-- The characters of a line. -/
def text (s : String) : List Byte := ascii s.toList

def up : State := { State.reset with linkUp := true, lastReceiveMs := 5000 }
def buffered (bs : List Byte) : State := { State.reset with rxBuf := bs }
def manual : State := { State.reset with mode := .manual }
def halted : State := { State.reset with stopped := true }
def scheduled (e : Entry) : State := { State.reset with agenda := [e] }

/-! Ill-formed operations, one for each check. -/

theorem test_wf_rc_short : (Instr.rc (zeros 21) 0).wf = false := by decide
theorem test_wf_gps_long : (Instr.gps (zeros 61)).wf = false := by decide
theorem test_wf_batt_short : (Instr.batt (zeros 7)).wf = false := by decide
theorem test_wf_linkstat_short : (Instr.linkstat (zeros 9)).wf = false := by decide
theorem test_wf_att_short : (Instr.att (zeros 5)).wf = false := by decide
theorem test_wf_fmode_empty : (Instr.fmode []).wf = false := by decide
theorem test_wf_short_is_not_short : (Instr.shortPayload 0x16 (zeros 22)).wf = false := by decide
theorem test_wf_short_of_no_type : (Instr.shortPayload 0x7F [1]).wf = false := by decide
theorem test_wf_short_empty : (Instr.shortPayload 0x16 []).wf = false := by decide
theorem test_wf_unknown_is_known : (Instr.unknown 0x1E (zeros 6)).wf = false := by decide
theorem test_wf_unknown_empty : (Instr.unknown 0x7F []).wf = false := by decide
theorem test_wf_foreign_is_own : (Instr.foreignAddr 0xC8 0x16 (zeros 22)).wf = false := by decide
theorem test_wf_foreign_empty : (Instr.foreignAddr 0xEE 0x16 []).wf = false := by decide
theorem test_wf_check_past_the_end : (Instr.frameCheck (zeros 3) 4).wf = false := by decide
theorem test_wf_check_too_long : (Instr.frameCheck (zeros 65) 2).wf = false := by decide
theorem test_wf_code_too_wide : (Instr.code2usRaw 2147483648).wf = false := by decide
theorem test_wf_unpack_short : (Instr.unpack (zeros 21)).wf = false := by decide
theorem test_wf_unpack_channels_long : (Instr.unpackChannels (zeros 23)).wf = false := by decide
theorem test_wf_step_too_many : (Instr.step (List.replicate 33 (0, 0)) .full 0).wf = false := by decide
theorem test_wf_step_not_full : (Instr.step [(0, 0)] .full 0).wf = false := by decide
theorem test_wf_step_full_unsaid : (Instr.step (List.replicate 32 (0, 0)) .nodata 0).wf = false := by decide
theorem test_wf_dispatch_empty : (Instr.dispatch 0xC8 0x16 [] 0).wf = false := by decide
theorem test_wf_get_too_wide : (Instr.chGet (-2147483649)).wf = false := by decide
theorem test_wf_set_too_wide : (Instr.chSet 2147483648 0).wf = false := by decide
theorem test_wf_iter_bad_input : (Instr.schedIter [.chSet 2147483648 0] 0).wf = false := by decide
theorem test_wf_set_channel_negative : (Instr.setChannel (-1) 1500).wf = false := by decide
theorem test_wf_set_channels_empty : (Instr.setChannels []).wf = false := by decide
theorem test_wf_set_channels_negative : (Instr.setChannels [(1, -1)]).wf = false := by decide

/-! Decoding: frames from 95_test_vectors.md 2.4. -/

theorem test_decode_rc : decode (.rxFrame 10 s1) = .ok (.rc (zeros 22) 10) := by decide +kernel
theorem test_decode_gps :
    decode (.rxFrame 0 [0xC8, 0x11, 0x02, 0x1D, 0xCD, 0x65, 0x00, 0xFB, 0x2E, 0x0A, 0x80, 0x00, 0x64, 0x46, 0x50, 0x04, 0x4C, 0x09, 0xE4]) =
      .ok (.gps [0x1D, 0xCD, 0x65, 0x00, 0xFB, 0x2E, 0x0A, 0x80, 0x00, 0x64, 0x46, 0x50, 0x04, 0x4C, 0x09]) := by decide +kernel
theorem test_decode_batt :
    decode (.rxFrame 0 [0xC8, 0x0A, 0x08, 0x00, 0xA8, 0x00, 0x0F, 0x00, 0x04, 0xD2, 0x4B, 0xB9]) =
      .ok (.batt [0x00, 0xA8, 0x00, 0x0F, 0x00, 0x04, 0xD2, 0x4B]) := by decide +kernel
theorem test_decode_linkstat :
    decode (.rxFrame 0 [0xC8, 0x0C, 0x14, 0x10, 0x20, 0x30, 0x40, 0x50, 0x60, 0x70, 0x80, 0x90, 0xA0, 0x31]) =
      .ok (.linkstat [0x10, 0x20, 0x30, 0x40, 0x50, 0x60, 0x70, 0x80, 0x90, 0xA0]) := by decide +kernel
theorem test_decode_att :
    decode (.rxFrame 0 [0xC8, 0x08, 0x1E, 0x00, 0x00, 0x06, 0xD6, 0x0D, 0xAC, 0x8D]) = .ok (.att [0x00, 0x00, 0x06, 0xD6, 0x0D, 0xAC]) := by
  decide +kernel
theorem test_decode_fmode :
    decode (.rxFrame 0 [0xC8, 0x07, 0x21, 0x41, 0x43, 0x52, 0x4F, 0x00, 0x80]) = .ok (.fmode [0x41, 0x43, 0x52, 0x4F, 0x00]) := by decide +kernel
theorem test_decode_short : decode (.rxFrame 0 ([0xC8, 0x0C, 0x16] ++ zeros 10 ++ [0x52])) = .ok (.shortPayload 0x16 (zeros 10)) := by decide +kernel
theorem test_decode_unknown : decode (.rxFrame 0 [0xC8, 0x04, 0x7F, 0x01, 0x02, 0xFE]) = .ok (.unknown 0x7F [0x01, 0x02]) := by decide +kernel
theorem test_decode_foreign : decode (.rxFrame 0 ([0xEE, 0x18, 0x16] ++ zeros 22 ++ [0xEF])) = .ok (.foreignAddr 0xEE 0x16 (zeros 22)) := by
  decide +kernel
theorem test_decode_tx : decode (.txFrame [0xC8, 0x18, 0x16]) = .ok .txRc := by decide +kernel

/-! Frames that are none (30_encoding.md R72). -/

theorem test_reject_crc : decode (.rxFrame 0 s3) = .error (.badFrame (.crcBad 24)) := by decide +kernel
theorem test_reject_length : decode (.rxFrame 0 [0xC8, 0x02, 0x16]) = .error (.badFrame .resync) := by decide +kernel
theorem test_reject_incomplete : decode (.rxFrame 0 [0xC8, 0x18]) = .error (.badFrame (.waitBody 24)) := by decide +kernel
theorem test_reject_trailing : decode (.rxFrame 0 (s1 ++ [0])) = .error .trailingBytes := by decide +kernel
theorem test_reject_tx : decode (.txFrame [0xC8, 0x18, 0x17]) = .error .badTxFrame := by decide +kernel

/-! Decoding: call records (log 2). -/

theorem test_decode_functions :
    decode (.call [10, 0x16, 0x00]) = .ok (.crc8 [0x16, 0x00]) ∧
    decode (.call [11, 0x00, 0x02, 0xC8, 0x02, 0x16]) = .ok (.frameCheck [0xC8, 0x02, 0x16] 2) ∧
    decode (.call [12, 0xC8, 0x7F, 0x55]) = .ok (.frameEncode 0xC8 0x7F [0x55]) ∧
    decode (.call [13, 0xFF, 0xFF, 0xFF, 0xFB]) = .ok (.code2usRaw (-5)) ∧
    decode (.call [14, 0x07, 0xFF]) = .ok (.code2us 2047) ∧
    decode (.call [14, 0x08, 0x00]) = .error (.badOperands 14) ∧
    decode (.call [15, 0x00, 0x00, 0x05, 0xDC]) = .ok (.us2code 1500) ∧
    decode (.call (17 :: zeros 22)) = .ok (.unpack (zeros 22)) ∧
    decode (.call (19 :: zeros 22)) = .ok (.unpackChannels (zeros 22)) ∧
    decode (.call [20]) = .ok .attDegrees := by decide +kernel

theorem test_decode_vectors :
    decode (.call (16 :: ([0, 0, 0, 0xBF] ++ zeros 60))) = .ok (.pack #v[191, 0, 0, 0, 0, 0, 0, 0, 0, 0, 0, 0, 0, 0, 0, 0]) ∧
    decode (.call (18 :: (zeros 60 ++ [0, 0, 0x05, 0xDC]))) = .ok (.packChannels #v[0, 0, 0, 0, 0, 0, 0, 0, 0, 0, 0, 0, 0, 0, 0, 1500]) := by
  decide +kernel

theorem test_decode_receive_side :
    decode (.call [21, 0x16, 0x00, 0x00, 0x13, 0x88]) = .ok (.rxb 0x16 5000) ∧
    decode (.call [22, 0, 0, 0, 10]) = .ok (.consume 10) ∧
    decode (.call [23]) = .ok .waitHdr ∧ decode (.call [24]) = .ok .resync ∧ decode (.call [25]) = .ok .waitBody ∧
    decode (.call [26, 0, 0, 0, 10]) = .ok (.crcOk 10) ∧ decode (.call [27]) = .ok .crcBad ∧
    decode (.call [28, 0, 0, 0x04, 0x4D]) = .ok (.tmo 1101) ∧
    decode (.call [29, 0, 0x01, 0xE8, 0x49]) = .ok (.ldn 125001) ∧
    decode (.call [30, 2, 0, 0, 0, 7, 0xC8, 0, 0, 0, 7]) = .ok (.step [(0xC8, 7)] .error 7) ∧
    decode (.call [31, 0xC8, 0x7F, 0, 0, 0, 9, 0x55]) = .ok (.dispatch 0xC8 0x7F [0x55] 9) := by decide +kernel

theorem test_decode_host_and_send_side :
    decode (.call [32, 0, 0, 0, 17]) = .ok (.chGet 17) ∧
    decode (.call [33, 0, 0, 0, 4, 0xFF, 0xFF, 0xFF, 0xFB]) = .ok (.chSet 4 0xFFFFFFFB) ∧
    decode (.call [34]) = .ok .chSnapshot ∧ decode (.call [35, 0, 0, 0x03, 0xF2]) = .ok (.tick 1010) ∧
    decode (.call [36]) = .ok .sendBuild ∧ decode (.call [37]) = .ok .sendGate ∧ decode (.call [38]) = .ok .sendEmit ∧
    decode (.call [39, 0, 0, 0, 50]) = .ok (.send 50) ∧ decode (.call [40, 0, 0, 0, 50]) = .ok (.forceSend 50) ∧
    decode (.call [41, 0, 0, 0, 110, 1, 0, 0, 0, 1, 0, 0, 0x07, 0xD0]) = .ok (.schedIter [.chSet 1 2000] 110) ∧
    decode (.call [42, 1]) = .ok (.setMode .manual) ∧ decode (.call [43, 1]) = .ok (.setIgnoreTel true) ∧
    decode (.call [44, 2, 0x7F, 0xFF]) = .ok (.joyAxis 2 0x7FFF) ∧ decode (.call [45]) = .ok .stop := by decide +kernel

theorem test_reject_records :
    decode (.call []) = .error .emptyRecord ∧ decode (.call [9]) = .error (.badRow 9) ∧ decode (.call [46]) = .error (.badRow 46) ∧
    decode (.call [45, 0]) = .error (.badOperands 45) ∧ decode (.call [42, 2]) = .error (.badOperands 42) := by decide +kernel

/-! Decoding: command lines (30_encoding.md R76). -/

theorem test_decode_lines :
    decode (.line 0 (text "setChannel 3 1200")) = .ok (.setChannel 3 1200) ∧
    decode (.line 0 (text "setChannels 1=1500 2=1600 17=1500 3=900")) = .ok (.setChannels [(1, 1500), (2, 1600), (17, 1500), (3, 900)]) ∧
    decode (.line 7 (text "sendChannels")) = .ok (.sendChannels 7) ∧
    decode (.line 0 (text "setMode joystick")) = .ok (.setModeText .joystick) := by decide +kernel

/-- 46_control_inputs.md R189, and the lexical points of 91 N9 (log 16). -/
theorem test_reject_lines :
    decode (.line 0 (text "setChanel 1 1500")) = .error .invalidCommand ∧ decode (.line 0 (text "setMode auto")) = .error .invalidCommand ∧
    decode (.line 0 (text "setChannels 1=1500 2=abc")) = .error .invalidCommand ∧
    decode (.line 0 (text "setChannel -1 1500")) = .error .invalidCommand ∧
    decode (.line 0 (text "SETCHANNEL 17 1500")) = .error .invalidCommand ∧
    decode (.line 0 (text "setChannel 01 1500")) = .error (.openLexicalForm (.setChannel 1 1500)) := by decide +kernel

/-! The host's table words (log 26). -/

theorem test_table_word : decodeTableWord 24 0xC80016 = some (.rc (zeros 22) 0) := by decide +kernel
theorem test_table_word_runs : (nextOf (step (State.reset.withFetchWord 24 0xC80016))).map (·.linkUp) = some true := by decide +kernel

/-! Pure functions (95_test_vectors.md 2.1, 2.2). -/

theorem test_crc8 : (run (.crc8 [0x31, 0x32, 0x33, 0x34, 0x35, 0x36, 0x37, 0x38, 0x39]) State.reset).map (·.result) = some (.byte 0xBC) := by decide +kernel
theorem test_crc8_of_80 : (run (.crc8 [0x80]) State.reset).map (·.result) = some (.byte 0xEF) := by decide +kernel
theorem test_frame_check_len : (run (.frameCheck s1 25) State.reset).map (·.result) = some (.verdict (.waitBody 24)) := by decide +kernel
theorem test_frame_check_smallest : (run (.frameCheck [0xC8, 0x03, 0x7F, 0x55, 0x37] 5) State.reset).map (·.result) = some (.verdict (.crcOk 3)) := by
  decide +kernel
theorem test_frame_encode : (run (.frameEncode 0xC8 0x7F [0x55]) State.reset).map (·.result) = some (.bytes [0xC8, 0x03, 0x7F, 0x55, 0x37]) := by
  decide +kernel
theorem test_frame_encode_refuses : (run (.frameEncode 0xC8 0x7F (zeros 61)) State.reset).map (·.result) = some .noFrame := by decide +kernel
theorem test_code2us_raw : (run (.code2usRaw 2047) State.reset).map (·.result) = some (.int 2159) := by decide +kernel
theorem test_code2us_raw_low : (run (.code2usRaw 189) State.reset).map (·.result) = some (.int 999) := by decide +kernel
theorem test_code2us : (run (.code2us 192) State.reset).map (·.result) = some (.int 1001) := by decide +kernel
theorem test_code2us_clamps : (run (.code2us 2047) State.reset).map (·.result) = some (.int 2000) := by decide +kernel
theorem test_us2code_tie : (run (.us2code 1500) State.reset).map (·.result) = some (.int 992) := by decide +kernel
theorem test_us2code_negative : (run (.us2code 0xFFFFFFFB) State.reset).map (·.result) = some (.int 191) := by decide +kernel
theorem test_pack : (run (.pack #v[1792, 591, 1792, 992, 191, 191, 191, 191, 191, 191, 191, 191, 191, 191, 191, 191]) State.reset).map (·.result) =
    some (.bytes [0x00, 0x7F, 0x12, 0xC0, 0xC1, 0xF7, 0x8B, 0x5F, 0xFC, 0xE2, 0x17, 0xBF, 0xF8, 0xC5, 0x2F, 0x7E, 0xF1, 0x8B, 0x5F, 0xFC, 0xE2, 0x17]) := by
  decide +kernel
theorem test_unpack : (run (.unpack ([0x00, 0xF8, 0x3F] ++ zeros 19)) State.reset).map (·.result) =
    some (.codes [0, 2047, 0, 0, 0, 0, 0, 0, 0, 0, 0, 0, 0, 0, 0, 0]) := by decide +kernel
theorem test_pack_channels : (run (.packChannels (Vector.replicate 16 1500)) State.reset).map (·.result) = some (.bytes mid) := by decide +kernel
theorem test_unpack_channels : (run (.unpackChannels (List.replicate 22 0xFF)) State.reset).map (·.result) =
    some (.channels (Vector.replicate 16 2000)) := by decide +kernel
/-- Scenario S5: 62214/175. -/
theorem test_att_degrees : (run .attDegrees { State.reset with att := ⟨0, 1750, 0xFCEE, true⟩ }).map (·.result) =
    some (.degrees ⟨0, 10, mkRat 62214 175⟩) := by decide +kernel

/-! Received frames (95_test_vectors.md 2.4). -/

theorem test_rc : (run (.rc (zeros 22) 10) State.reset).map (fun s => (s.ch, s.linkUp, s.lastChannelsMs, s.events)) =
    some (Vector.replicate 16 1000, true, 10, [.onLinkUp, .onChannels]) := by decide +kernel
theorem test_rc_ignores_more : (run (.rc (mid ++ [0x99]) 1) up).map (fun s => (s.ch, s.events)) = some (Vector.replicate 16 1500, [.onChannels]) := by
  decide +kernel
theorem test_gps : (run (.gps [0x1D, 0xCD, 0x65, 0x00, 0xFB, 0x2E, 0x0A, 0x80, 0x00, 0x64, 0x46, 0x50, 0x04, 0x4C, 0x09]) State.reset).map
    (fun s => [s.gps.lat.toInt, s.gps.lon.toInt, s.gps.speed.toNat, s.gps.heading.toNat, s.gps.alt.toNat, s.gps.sats.toNat]) =
    some [500000000, -80868736, 100, 18000, 1100, 9] := by decide +kernel
theorem test_batt : (run (.batt [0x00, 0xA8, 0x00, 0x0F, 0x00, 0x04, 0xD2, 0x4B]) State.reset).map
    (fun s => (s.bat.voltage.toNat, s.bat.current.toNat, s.bat.capacity.toNat, s.bat.remaining.toNat, s.bat.valid)) = some (168, 15, 1234, 75, true) := by
  decide +kernel
theorem test_linkstat : (run (.linkstat [0x10, 0x20, 0x30, 0x40, 0x50, 0x60, 0x70, 0x80, 0x90, 0xA0]) State.reset).map (·.linkstat) =
    some ⟨#v[0x10, 0x20, 0x30, 0x40, 0x50, 0x60, 0x70, 0x80, 0x90, 0xA0], true⟩ := by decide +kernel
theorem test_att : (run (.att [0xFF, 0x51, 0x80, 0x00, 0x7F, 0xFF]) State.reset).map
    (fun s => (s.att.pitchRaw.toInt, s.att.rollRaw.toInt, s.att.yawRaw.toInt)) = some (-175, -32768, 32767) := by decide +kernel
theorem test_fmode : (run (.fmode [0x41, 0x43, 0x52, 0x4F, 0x00]) State.reset).map (fun s => (s.fmLen, s.fm.bytes, s.fm.valid)) =
    some (5, [0x41, 0x43, 0x52, 0x4F, 0x00], true) := by decide +kernel
theorem test_short_payload : run (.shortPayload 0x16 (zeros 10)) State.reset = some { State.reset with events := [.shortPayload] } := by decide +kernel
theorem test_unknown : run (.unknown 0x7F [1, 2]) State.reset = some { State.reset with events := [.unknownType] } := by decide +kernel
theorem test_foreign : run (.foreignAddr 0xEE 0x16 (zeros 22)) State.reset = some { State.reset with events := [.foreignAddr] } := by decide +kernel
theorem test_tx_rc : (run .txRc State.reset).map (·.txInflight) = some (.built midFrame) := by decide +kernel

/-! The RX engine (95_test_vectors.md 2.3). -/

theorem test_rxb : (run (.rxb 0x16 5000) (buffered [0xC8, 0x18])).map (fun s => (s.rxBuf, s.lastReceiveMs)) = some ([0xC8, 0x18, 0x16], 5000) := by
  decide +kernel
theorem test_rxb_overflow : (run (.rxb 0x16 5000) (buffered (zeros 64))).map (fun s => (s.rxLen, s.events)) = some (0, [.rxOverflow]) := by decide +kernel
theorem test_consume_garbage : (run (.consume 0) (buffered [0x00, 0xFF, 0xC8, 0x18])).map (fun s => (s.rxBuf, s.events)) =
    some ([0xC8, 0x18], [.lenRange, .lenRange]) := by decide +kernel
theorem test_consume_rc : (run (.consume 10) (buffered s1)).map (fun s => (s.rxLen, s.linkUp, s.lastChannelsMs, s.events)) =
    some (0, true, 10, [.frameOk, .onLinkUp, .onChannels]) := by decide +kernel
theorem test_wait_hdr : run .waitHdr (buffered [0xC8]) = some (buffered [0xC8]) := by decide +kernel
theorem test_wait_hdr_not_selected : refusalOf (exec .waitHdr (buffered s1)) = some .caseNotSelected := by decide +kernel
theorem test_resync : (run .resync (buffered [0xC8, 0x02, 0x16])).map (·.rxBuf) = some [0x02, 0x16] := by decide +kernel
theorem test_wait_body : run .waitBody (buffered [0xC8, 0x3E]) = some (buffered [0xC8, 0x3E]) := by decide +kernel
theorem test_crc_ok : (run (.crcOk 10) (buffered (s1 ++ [1]))).map (fun s => (s.rxBuf, s.linkUp)) = some ([1], true) := by decide +kernel
theorem test_crc_bad : run .crcBad (buffered s3) = some { State.reset with events := [.crcMismatch] } := by decide +kernel
theorem test_tmo_at_100 : run (.tmo 1100) { buffered [0xC8, 0x18, 0x16] with lastReceiveMs := 1000 } =
    some { buffered [0xC8, 0x18, 0x16] with lastReceiveMs := 1000 } := by decide +kernel
theorem test_tmo_at_101 : (run (.tmo 1101) { buffered [0xC8, 0x18, 0x16] with lastReceiveMs := 1000 }).map (fun s => (s.rxLen, s.events)) =
    some (0, [.truncated]) := by decide +kernel
theorem test_ldn_across_the_wrap : (run (.ldn 54465) { up with lastReceiveMs := 0xFFFF0000 }).map (fun s => (s.linkUp, s.events)) =
    some (false, [.onLinkDown]) := by decide +kernel
theorem test_ldn_at_the_limit : run (.ldn 125000) up = some up := by decide +kernel
theorem test_step : (run (.step (s1.map fun b => (b, 10)) .nodata 10) State.reset).map (fun s => (s.rxLen, s.lastReceiveMs, s.linkUp, s.events)) =
    some (0, 10, true, [.frameOk, .onLinkUp, .onChannels]) := by decide +kernel
/-- The flush dispatches (program P4 (c)). -/
theorem test_step_flush : (run (.step [] .nodata 111) { buffered ([0xAA, 0x3E] ++ s1) with lastReceiveMs := 10 }).map
    (fun s => (s.rxLen, s.lastChannelsMs, s.events)) = some (0, 111, [.truncated, .lenRange, .frameOk, .onLinkUp, .onChannels]) := by decide +kernel
theorem test_dispatch : run (.dispatch 0xEE 0x16 (zeros 22) 0) State.reset = some { State.reset with events := [.foreignAddr] } := by decide +kernel

/-! The channel store (95_test_vectors.md 2.5). -/

theorem test_ch_get : (run (.chGet 3) { State.reset with ch := State.reset.ch.set 2 2500 }).map (·.result) = some (.int 2500) := by decide +kernel
theorem test_ch_get_outside : (run (.chGet 17) { State.reset with ch := Vector.replicate 16 7 }).map (·.result) = some (.int 1500) := by decide +kernel
theorem test_ch_set : (run (.chSet 4 0xFFFFFFFB) State.reset).map (fun s => (s.ch[3]).toInt) = some (-5) := by decide +kernel
theorem test_ch_set_outside : run (.chSet 0 1234) State.reset = some State.reset := by decide +kernel
theorem test_ch_snapshot : (run .chSnapshot State.reset).map (·.result) = some (.channels (Vector.replicate 16 1500)) := by decide +kernel

/-! The send scheduler (95_test_vectors.md 2.6). -/

def ready : State := { up with lastTxMs := 1000, emitAnswers := [.accepted] }

theorem test_tick_early : run (.tick 1009) ready = some ready := by decide +kernel
theorem test_tick_due : (run (.tick 1010) ready).map (fun s => (s.lastTxMs, s.txLine)) = some (1010, [.frame midFrame]) := by decide +kernel
theorem test_send_build : (run .sendBuild State.reset).map (·.txInflight) = some (.built midFrame) := by decide +kernel
theorem test_send_gate : (run .sendGate { up with txInflight := .built midFrame }).map (·.txInflight) = some (.passed midFrame) := by decide +kernel
theorem test_send_gate_drops : run .sendGate { State.reset with txInflight := .built midFrame } = some { State.reset with events := [.txGated] } := by
  decide +kernel
theorem test_send_emit : (run .sendEmit { State.reset with txInflight := .passed midFrame, emitAnswers := [.accepted] }).map
    (fun s => (s.txLine, s.txInflight)) = some ([.frame midFrame], .none) := by decide +kernel
theorem test_send_emit_fails : (run .sendEmit { State.reset with txInflight := .passed midFrame, emitAnswers := [.failed] }).map
    (fun s => (s.events, s.txInflight)) = some ([.transportWriteErr], .none) := by decide +kernel
theorem test_send_gated : (run (.send 10) State.reset).map (fun s => (s.lastTxMs, s.events, s.txLine)) = some (10, [.txGated], []) := by decide +kernel
theorem test_force_send : (run (.forceSend 50) { up with emitAnswers := [.accepted] }).map (fun s => (s.lastTxMs, s.txLine)) =
    some (50, [.frame midFrame]) := by decide +kernel
theorem test_sched_iter_sends_once : (run (.schedIter [.forceSend] 105) { ready with lastTxMs := 100 }).map (fun s => (s.lastTxMs, s.txLine)) =
    some (105, [.frame midFrame]) := by decide +kernel
/-- Program P5 step 5: the channel written in this iteration is in the frame. -/
theorem test_sched_iter_order : (run (.schedIter [.chSet 1 2000] 25) { State.reset with ignoreTel := true, emitAnswers := [.accepted] }).map (·.txLine) =
    some [.frame [0xC8, 0x18, 0x16, 0x00, 0x07, 0x1F, 0xF8, 0xC0, 0x07, 0x3E, 0xF0, 0x81, 0x0F, 0x7C, 0xE0, 0x03, 0x1F, 0xF8, 0xC0, 0x07, 0x3E, 0xF0, 0x81,
      0x0F, 0x7C, 0x40]] := by decide +kernel

/-! Control inputs (95_test_vectors.md 2.7). -/

theorem test_set_mode : run (.setMode .manual) State.reset = some manual := by decide +kernel
theorem test_set_ignore_tel : (run (.setIgnoreTel true) State.reset).map (·.ignoreTel) = some true := by decide +kernel
theorem test_joy_throttle : (run (.joyAxis 1 0x8000) State.reset).map (fun s => (s.ch[2]).toInt) = some 2000 := by decide +kernel
theorem test_joy_pitch : (run (.joyAxis 3 0x4000) State.reset).map (fun s => (s.ch[1]).toInt) = some 1250 := by decide +kernel
theorem test_stop : run .stop State.reset = some halted := by decide +kernel
theorem test_set_channel : (run (.setChannel 3 1200) State.reset).map (fun s => (s.ch[2]).toInt) = some 1200 := by decide +kernel
theorem test_set_channel_rejects : run (.setChannel 1 2001) State.reset = some { State.reset with events := [.cmdReject] } := by decide +kernel
theorem test_set_channels : (run (.setChannels [(1, 1500), (2, 1600), (17, 1500), (3, 900)]) State.reset).map (·.ch) =
    some (State.reset.ch.set 1 1600) := by decide +kernel
theorem test_send_channels : (run (.sendChannels 7) State.reset).map (fun s => (s.lastTxMs, s.events)) = some (7, [.txGated]) := by decide +kernel
theorem test_set_mode_text : (run (.setModeText .joystick) manual).map (·.mode) = some .joystick := by decide +kernel

/-! Steps: the register port (10_state.md R33), atomic steps (20_memory.md R52), entries that do not run. -/

theorem test_status_word : (nextOf (step { up with agenda := [.regRead 0x10], rxBuf := zeros 64, txInflight := .built [], stopped := true })).map
    (·.result) = some (.word 0x40C1) := by decide +kernel
theorem test_yaw_register : (nextOf (step { scheduled (.regRead 0x32) with att := ⟨0, 0, 0xFCEE, true⟩ })).map (·.result) = some (.word 0xFFFFFCEE) := by
  decide +kernel
theorem test_flight_mode_register : (nextOf (step { scheduled (.regRead 0x41) with fm := ⟨[1, 2, 3, 4, 5], true⟩ })).map (·.result) =
    some (.word 5) := by decide +kernel
theorem test_unlisted_register : faultOf (step (scheduled (.regRead 0x16))) = some (.noSuchRegister 0x16) := by decide +kernel
theorem test_read_only_register : faultOf (step (scheduled (.regWrite 0x10 1 0))) = some (.readOnlyRegister 0x10) := by decide +kernel
theorem test_resume_takes_one_step : (nextOf (step { scheduled (.resume .tx) with txPlan := [.stamp 9, .build] })).map (fun s => (s.lastTxMs, s.txPlan)) =
    some (9, [.build]) := by decide +kernel
/-- A busy agent finishes its operation first (log 18); one that STOP has ended is no operation in progress (46_control_inputs.md R188). -/
theorem test_busy_agent_finishes : (nextOf (step { up with agenda := [.invoke (.call [22, 0, 0, 0, 0])], rxPlan := [.ldn 125001] })).map
    (fun s => (s.linkUp, s.rxPlan)) = some (false, []) := by decide +kernel
theorem test_stopped_iteration_returns : nextOf (step { halted with agenda := [.invoke (.call [41, 0, 0, 0, 110])], txPlan := [.build] }) =
    some { halted with txPlan := [.build] } := by decide +kernel
/-- A line that the ingress rejects leaves a busy scheduler as it is (60_exceptions.md R209). -/
theorem test_rejected_line_begins_nothing :
    nextOf (step { scheduled (.invoke (.line 0 (text "setChannels 17=1500"))) with txPlan := [.stamp 9] }) = some { State.reset with txPlan := [.stamp 9] } ∧
    nextOf (step { scheduled (.start (.line 0 (text "setChannels 17=1500"))) with txPlan := [.stamp 9] }) = some { State.reset with txPlan := [.stamp 9] } := by
  decide +kernel
/-- A host that reads a group word by word gets one instant of it (20_memory.md R51). -/
theorem test_group_read : (nextOf (step { scheduled (.groupRead .att) with att := ⟨1, 0xFFFF, 3, true⟩ })).map (·.result) =
    some (.words [(0x30, 1), (0x31, 0xFFFFFFFF), (0x32, 3)]) := by decide +kernel
/-- A register read has no side effect (20_memory.md R53): it leaves the state as it was but for the answer. -/
theorem test_read_changes_nothing : nextOf (step { State.reset with agenda := [.regRead 0x20] }) = some { State.reset with result := .word 0 } := by decide +kernel
/-- One `shift(1)` of TMO is one turn (20_memory.md R52), and CONSUME's passes come next. -/
theorem test_flush_turn : (nextOf (step { scheduled (.resume .rx) with rxBuf := [1, 2, 3], rxPlan := [.tmoShift 7] })).map (fun s => (s.rxBuf, s.rxPlan)) =
    some ([2, 3], [.consume 7, .tmoShift 7]) := by decide +kernel
theorem test_cmd_queues_a_send : nextOf (step (scheduled (.regWrite 0x15 1 9))) = some { State.reset with txPlan := [.control .forceSend 9] } := by
  decide +kernel
theorem test_invalid_line_is_dropped : (nextOf (step (scheduled (.invoke (.line 0 (text "setChanel 1 1500")))))).map (·.events) = some [.cmdReject] := by
  decide +kernel

/-! Witnesses: for each statement with hypotheses, a state and operands that meet them, for each clause at its boundary values. -/

theorem met_WireFramesDecodeBack :
    (Instr.fmode (zeros 60)).wf = true ∧ ∃ now bytes, encode (.fmode (zeros 60)) = .rxFrame now bytes := ⟨by decide, _, _, rfl⟩
theorem met_CommandLinesDecodeBack :
    (Instr.setChannel 0 0).wf = true ∧ ∃ now line, encode (.setChannel 0 0) = .line now line := ⟨by decide, _, _, rfl⟩
theorem met_CallRecordsDecodeBack :
    Instr.stop.wf = true ∧ (∀ now bytes, encode .stop ≠ .rxFrame now bytes) ∧ ∀ now line, encode .stop ≠ .line now line :=
  ⟨rfl, fun _ _ => nofun, fun _ _ => nofun⟩
theorem met_DecodedFramesEncodeBack : decode (.rxFrame 0 [0xC8, 0x03, 0x7F, 0x55, 0x37]) = .ok (.unknown 0x7F [0x55]) := by decide +kernel
theorem met_DecodedOperationsAreWellFormed : decode (.call [45]) = .ok .stop := by decide +kernel
theorem met_TypeSwitchForAnyTypeCodes :
    Config.types.distinct = true ∧ State.reset.running ∧ (0x7F : Byte) ∉ [0x16, 0x02, 0x08, 0x14, 0x1E, 0x21] ∧ (0xEE : Byte) ≠ 0xC8 :=
  ⟨by decide, rfl, by decide, by decide⟩
theorem met_StepRunsTheDecodedOperation :
    (∃ s e rest i, s = scheduled e ∧ s.agenda = .invoke (.call [45]) :: rest ∧ decode (.call [45]) = .ok i ∧ i.engine = none) ∧
    decode (.call [37]) = .ok .sendGate ∧ Instr.sendGate.engine = some .tx ∧ State.reset.txPlan = [] ∧
    decode (.call [24]) = .ok .resync ∧ Instr.resync.engine = some .rx ∧ State.reset.rxPlan = [] ∧
    decode (.line 0 (text "setMode auto")) = .error .invalidCommand ∧ State.reset.running ∧ halted.stopped = true ∧
    decode (.line 0 (text "sendChannels now")) = .error (.openLexicalForm (.sendChannels 0)) ∧ State.reset.agenda = [] :=
  ⟨⟨_, .invoke (.call [45]), [], .stop, rfl, rfl, by decide +kernel, rfl⟩, by decide +kernel, rfl, rfl, by decide +kernel, rfl, rfl, by decide +kernel,
    rfl, rfl, by decide +kernel, rfl⟩
theorem met_EveryStepKeepsTheBlockSound :
    Inv (scheduled (.invoke (.rxFrame 0 s1))) ∧ (nextOf (step (scheduled (.invoke (.rxFrame 0 s1))))).isSome = true :=
  ⟨⟨rfl, by decide, rfl, by simp [scheduled, State.reset, State.resetWith], rfl⟩, by decide +kernel⟩
theorem met_StepsNeverClearStickyState :
    ∃ s t, step s = .next t ∧ s.stopped = true ∧ s.gps.valid = true ∧ s.bat.valid = true ∧ s.att.valid = true ∧ s.linkstat.valid = true ∧
      s.fm.valid = true :=
  ⟨{ halted with gps.valid := true, bat.valid := true, att.valid := true, linkstat.valid := true, fm.valid := true, agenda := [.resume .rx] }, _,
    rfl, rfl, rfl, rfl, rfl, rfl, rfl⟩
theorem met_NoOperationFaults :
    frameCheck (buffered s1).rxBuf = .crcOk 24 ∧ frameCheck (buffered s3).rxBuf = .crcBad 24 ∧ State.reset.txInflight = .none := by decide +kernel
theorem met_AgentsWriteOnlyTheirOwnState :
    (Instr.rc (zeros 22) 0).engine = some .rx ∧ (∃ t, exec (.rc (zeros 22) 0) State.reset = .next t) ∧ (Instr.send 0).engine ≠ some .rx ∧
    (∃ t, exec (.send 0) State.reset = .next t) ∧ Instr.stop.engine ≠ some .tx ∧ (∃ t, exec .stop State.reset = .next t) ∧
    (scheduled (.regWrite 0x15 1 0)).agenda = [.regWrite 0x15 1 0] ∧ ∃ t, step (scheduled (.regWrite 0x15 1 0)) = .next t :=
  ⟨rfl, ⟨_, rfl⟩, by decide, ⟨_, rfl⟩, by decide, ⟨_, rfl⟩, rfl, _, rfl⟩
theorem met_OnlyRcFramesAndSilenceMoveTheLink :
    (run (.rc (zeros 22) 10) State.reset).map (·.linkUp) = some true ∧ State.reset.linkUp = false ∧
    (run (.consume 10) (buffered s1)).map (·.linkUp) = some true ∧ (buffered s1).linkUp = false ∧
    (run (.ldn 125001) up).map (·.linkUp) = some false ∧ (run (.step [] .nodata 125001) up).map (·.linkUp) = some false ∧ up.linkUp = true := by
  decide +kernel
theorem met_AtomicStepsMakeTheOperation :
    (∃ a ts, Agents.stepsOf (.step [(0xC8, 7)] .error 7) = some (a, ts)) ∧ State.reset.running ∧
    decode (.call [41, 0, 0, 0, 110, 4, 0, 0, 0, 0, 0, 0, 0, 0]) = .ok (.schedIter [.forceSend] 110) ∧
    (∃ ts, Agents.stepsOf (.schedIter [.forceSend] 110) = some (.tx, ts)) ∧ Agents.planOf .tx State.reset = [] ∧
    (scheduled (.resume .rx)).agenda = [.resume .rx] ∧
    Agents.planOf .rx { scheduled (.resume .rx) with rxPlan := [.ldn 0] } = [.ldn 0] ∧ Agents.planOf .rx (scheduled (.resume .rx)) = [] ∧
    decode (.call [24]) = .ok .resync ∧ Instr.resync.engine = some .rx ∧
    ({ up with txInflight := .built midFrame } : State).txInflight = .built midFrame ∧ State.reset.txInflight = .none ∧
    ({ up with txInflight := .passed midFrame } : State).txInflight = .passed midFrame ∧ frameCheck (buffered [0xC8]).rxBuf = .waitHdr ∧
    frameCheck (buffered [0xC8, 2]).rxBuf = .resync ∧ frameCheck (buffered [0xC8, 62]).rxBuf = .waitBody 62 ∧ frameCheck (buffered s1).rxBuf = .crcOk 24 ∧
    frameCheck (buffered s3).rxBuf = .crcBad 24 ∧ 0 < (buffered s1).rxLen ∧ 100 < ((101 : Time) - (buffered s1).lastReceiveMs).toNat ∧
    State.reset.rxLen = 0 ∧ 10 ≤ ((10 : Time) - State.reset.lastTxMs).toNat ∧ ((9 : Time) - State.reset.lastTxMs).toNat < 10 :=
  ⟨⟨_, _, rfl⟩, rfl, by decide +kernel, ⟨_, rfl⟩, rfl, rfl, rfl, rfl, by decide +kernel, rfl, rfl, rfl, rfl, by decide +kernel, by decide +kernel,
    by decide +kernel, by decide +kernel, by decide +kernel, by decide, by decide, rfl, by decide, by decide⟩
theorem met_RcFrameWritesChannelsAndLink : 22 ≤ (zeros 22).length ∧ State.reset.running ∧ up.running := ⟨by decide, rfl, rfl⟩
theorem met_GpsFrameWritesItsGroup : 15 ≤ (zeros 15).length ∧ State.reset.running := ⟨by decide, rfl⟩
theorem met_BatteryFrameWritesItsGroup : 8 ≤ (zeros 8).length ∧ State.reset.running := ⟨by decide, rfl⟩
theorem met_AttitudeFrameWritesItsGroup : 6 ≤ (zeros 6).length ∧ State.reset.running := ⟨by decide, rfl⟩
theorem met_VerbatimFramesWriteTheirGroups : 10 ≤ (zeros 10).length ∧ 1 ≤ (zeros 1).length ∧ State.reset.running := ⟨by decide, by decide, rfl⟩
theorem met_DroppedFramesChangeNothing :
    State.reset.running ∧ (zeros 21).length < 22 ∧ (zeros 14).length < 15 ∧ (zeros 7).length < 8 ∧ (zeros 9).length < 10 ∧ (zeros 5).length < 6 ∧
    (zeros 0).length < 1 := ⟨rfl, by decide⟩
theorem met_SingleBitFlipsAreRejected : frameCheck s1 = .crcOk 24 ∧ 2 ≤ 25 ∧ 25 ≤ 24 + 1 ∧ 7 < 8 := by decide +kernel
theorem met_EncodedFramesAreAccepted : 1 ≤ (zeros 1).length ∧ (zeros 1).length ≤ 60 ∧ 1 ≤ (zeros 60).length ∧ (zeros 60).length ≤ 60 := by decide
theorem met_FrameCheckVerdicts :
    (1 ≤ s1.length ∧ 1 < 2) ∧ (2 ≤ [0xC8, 2].length ∧ ([(0xC8 : Byte), 2].getD 1 0).toNat < 3) ∧ 62 < ([(0xC8 : Byte), 63].getD 1 0).toNat ∧
    (([(0xC8 : Byte), 62].getD 1 0).toNat = 62 ∧ 2 < 62 + 2) ∧ (24 + 2 ≤ s1.length ∧ crc8 ((List.range 23).map fun k => s1.getD (2 + k) 0) = s1.getD 25 0) ∧
    crc8 ((List.range 23).map fun k => s3.getD (2 + k) 0) ≠ s3.getD 25 0 := by decide +kernel
theorem met_OnlyChSetLeavesTheRange :
    22 ≤ (zeros 22).length ∧ State.reset.running ∧ (∃ t, exec (.rc (zeros 22) 0) State.reset = .next t) ∧
    (∃ t, exec (.schedIter [.joyAxis 2 0] 0) State.reset = .next t) ∧ inRange State.reset.ch[0] ∧
    ∀ k us, Control.chSet k us ∉ [Control.joyAxis 2 0] := ⟨by decide, rfl, ⟨_, rfl⟩, ⟨_, rfl⟩, by unfold inRange; decide, by simp⟩
theorem met_PackAndUnpackAreInverse : (zeros 22).length = 22 ∧ (List.replicate 16 (2047 : Int)).length = 16 := by decide
theorem met_ReceivedByteIsStampedAndKept :
    State.reset.running ∧ (buffered (zeros 64)).rxBuf.length = 64 ∧ (buffered (zeros 63)).rxBuf.length ≠ 64 := ⟨rfl, by decide, by decide⟩
theorem met_ConsumeActsOnTheFrontCandidate :
    (buffered s1).running ∧ (buffered [0xC8]).rxBuf.length < 2 ∧ ((buffered [0xC8, 2]).rxBuf.getD 1 0).toNat < 3 ∧
    62 < ((buffered [0xC8, 63]).rxBuf.getD 1 0).toNat ∧ (buffered [0xC8, 62]).rxBuf.length < 62 + 2 ∧
    crc8 (((buffered s3).rxBuf.drop 2).take 23) ≠ (buffered s3).rxBuf.getD 25 0 ∧
    crc8 (((buffered s1).rxBuf.drop 2).take 23) = (buffered s1).rxBuf.getD 25 0 :=
  ⟨rfl, by decide +kernel, by decide +kernel, by decide +kernel, by decide +kernel, by decide +kernel, by decide +kernel⟩
theorem met_ConsumeEndsAtAnIncompleteCandidate : (buffered s1).running := rfl
theorem met_CaseRowsTakeOnePass :
    (buffered s1).running ∧ frameCheck (buffered [0xC8]).rxBuf = .waitHdr ∧ frameCheck (buffered [0xC8, 2]).rxBuf = .resync ∧
    frameCheck (buffered [0xC8, 63]).rxBuf = .resync ∧ frameCheck (buffered [0xC8, 3]).rxBuf = .waitBody 3 ∧
    frameCheck (buffered s3).rxBuf = .crcBad 24 ∧ frameCheck (buffered s1).rxBuf = .crcOk 24 :=
  ⟨rfl, by decide +kernel, by decide +kernel, by decide +kernel, by decide +kernel, by decide +kernel, by decide +kernel⟩
theorem met_StalledBufferIsFlushed :
    (buffered s1).running ∧ 0 < (buffered s1).rxLen ∧ 100 < ((101 : Time) - (buffered s1).lastReceiveMs).toNat ∧
    ((100 : Time) - (buffered s1).lastReceiveMs).toNat ≤ 100 ∧ State.reset.rxLen = 0 := ⟨rfl, by decide, by decide, by decide, rfl⟩
theorem met_SilenceLowersTheLink :
    up.running ∧ up.linkUp = true ∧ 120000 < ((125001 : Time) - up.lastReceiveMs).toNat ∧ ((125000 : Time) - up.lastReceiveMs).toNat ≤ 120000 ∧
    State.reset.linkUp = false := ⟨rfl, rfl, by decide, by decide, rfl⟩
theorem met_StepIsItsPhases : halted.stopped = true ∧ State.reset.running := ⟨rfl, rfl⟩
theorem met_StepBounds : State.reset.running ∧ State.reset.rxLen = 0 ∧ State.reset.linkUp = false ∧ ReadEnd.nodata ≠ .error := ⟨rfl, rfl, rfl, by decide⟩
theorem met_ChannelReads : (∃ i : Fin 16, (i : Int) + 1 = 16) ∧ ((0 : Int) < 1 ∨ 16 < (0 : Int)) ∧ ((17 : Int) < 1 ∨ 16 < (17 : Int)) :=
  ⟨⟨15, by decide⟩, by decide, by decide⟩
theorem met_ChannelWrites : State.reset.running ∧ (∃ i : Fin 16, (i : Int) + 1 = 1) ∧ ((17 : Int) < 1 ∨ 16 < (17 : Int)) := ⟨rfl, ⟨0, by decide⟩, by decide⟩
theorem met_TransmittedFrame : State.reset.running ∧ mid = pack (State.reset.ch.toList.map fun u => us2code u.toInt) := ⟨rfl, by decide +kernel⟩
theorem met_LinkGate :
    ({ up with txInflight := .built midFrame } : State).running ∧ up.linkUp = true ∧ State.reset.linkUp = false ∧ State.reset.ignoreTel = false :=
  ⟨rfl, rfl, rfl, rfl⟩
theorem met_PassedFrameIsEmitted :
    ∃ s : State, s.running ∧ s.txInflight = .passed midFrame ∧ midFrame ≠ [] ∧ (s.emitAnswers = [] ∨ s.emitAnswers = [.accepted] ∨ s.emitAnswers = [.failed]) :=
  ⟨{ up with txInflight := .passed midFrame }, rfl, rfl, by decide, .inl rfl⟩
theorem met_SendsStampAndPassTheGate :
    ready.running ∧ midFrame = frameBytes 0xC8 0x16 (pack (ready.ch.toList.map fun u => us2code u.toInt)) ∧ gateOpen ready = true ∧
    ready.emitAnswers = [.accepted] ∧ gateOpen State.reset = false ∧
    ({ ready with emitAnswers := [.failed] } : State).emitAnswers = [.failed] ∧ gateOpen up = true ∧ up.emitAnswers = [] :=
  ⟨rfl, by decide +kernel, rfl, rfl, rfl, rfl, rfl, rfl⟩
theorem met_TickSendsWhenDue :
    ready.running ∧ 10 ≤ ((1010 : Time) - ready.lastTxMs).toNat ∧ ((1009 : Time) - ready.lastTxMs).toNat < 10 := ⟨rfl, by decide, by decide⟩
theorem met_SchedulerIterationIsItsInputsThenTick : halted.stopped = true ∧ ready.running := ⟨rfl, rfl⟩
theorem met_OneFrameAfterLinkDown :
    ∃ s : State, s.running ∧ s.txInflight = .built midFrame ∧ s.linkUp = true ∧ 120000 < ((125001 : Time) - s.lastReceiveMs).toNat ∧
      s.emitAnswers = [.accepted] := ⟨{ up with txInflight := .built midFrame, emitAnswers := [.accepted] }, rfl, rfl, rfl, by decide, rfl⟩
theorem met_ModeAndFlagWrites : State.reset.running := rfl
theorem met_JoystickDrivesFourChannels :
    manual.running ∧ manual.mode = .manual ∧ State.reset.running ∧ State.reset.mode = .joystick ∧ (4 : Byte) ∉ [0, 1, 2, 3] := ⟨rfl, rfl, rfl, rfl, by decide⟩
theorem met_StoppedBlockTakesNoStep :
    (∃ s : State, s.stopped = true ∧ s.txInflight = .passed midFrame ∧ midFrame ≠ [] ∧ s.agenda = [.resume .tx] ∧ Agents.planOf .tx s = [.emit]) ∧
    (∃ s : State, s.stopped = true ∧ s.txInflight = .built midFrame ∧ s.agenda = [.resume .tx] ∧ Agents.planOf .tx s = [.gate, .emit]) ∧
    (∃ s : State, s.stopped = true ∧ s.agenda = [.resume .rx] ∧ Agents.planOf .rx s = [.ldn 0]) ∧
    (Instr.consume 0).engine ≠ none ∧ run (.consume 0) halted = some halted :=
  ⟨⟨{ halted with txInflight := .passed midFrame, agenda := [.resume .tx], txPlan := [.emit] }, rfl, rfl, by decide, rfl, rfl⟩,
    ⟨{ halted with txInflight := .built midFrame, agenda := [.resume .tx], txPlan := [.gate, .emit] }, rfl, rfl, rfl, rfl⟩,
    ⟨{ halted with agenda := [.resume .rx], rxPlan := [.ldn 0] }, rfl, rfl, rfl⟩, by decide, by decide +kernel⟩
theorem met_SetChannelCommand :
    State.reset.running ∧ (∃ j : Fin 16, (16 : Int) = (j : Int) + 1) ∧ ¬ (1 ≤ (17 : Int) ∧ (17 : Int) ≤ 16 ∧ 1000 ≤ (1500 : Int) ∧ (1500 : Int) ≤ 2000) ∧
    ¬ (1 ≤ (1 : Int) ∧ (1 : Int) ≤ 16 ∧ 1000 ≤ (2001 : Int) ∧ (2001 : Int) ≤ 2000) := ⟨rfl, ⟨15, by decide⟩, by decide, by decide⟩
theorem met_SetChannelsCommand : State.reset.running := rfl
theorem met_RegisterReads :
    (scheduled .recordCopy).agenda = [.recordCopy] ∧ (∀ g, (scheduled (.groupRead g)).agenda = [.groupRead g]) ∧
    (∀ n, (scheduled (.regRead n)).agenda = [.regRead n]) ∧
    (∀ n, (scheduled (.regRead n)).rxLen ≤ 64) ∧ (buffered (zeros 64)).rxLen ≤ 64 ∧ (∃ i : Fin 16, 0xF = (i : Nat)) ∧
    (∃ k : Fin 3, 0x3A = 0x38 + (k : Nat)) ∧ (∃ k : Fin 15, 0x4E = 0x40 + (k : Nat)) ∧
    0x16 ∉ registerNumbers ∧ 0x1F ∉ registerNumbers ∧ 0x26 ∉ registerNumbers ∧ 0x3B ∉ registerNumbers ∧ 0x4F ∉ registerNumbers :=
  ⟨rfl, fun _ => rfl, fun _ => rfl, fun _ => Nat.zero_le _, by decide, ⟨15, rfl⟩, ⟨2, rfl⟩, ⟨14, rfl⟩, by decide⟩
theorem met_RegisterWrites :
    (∀ n v, (scheduled (.regWrite n v 0)).agenda = [.regWrite n v 0]) ∧ (∀ e, (scheduled e).running) ∧
    (∃ i : Fin 16, 0xF = (i : Nat)) ∧ (1#32).getLsbD 0 = true ∧ (1#32).getLsbD 1 = false ∧ (2#32).getLsbD 0 = false ∧ (2#32).getLsbD 1 = true ∧
    halted.stopped = true ∧ (∀ n ∈ [0x10, 0x13, 0x20, 0x4E], n ∈ registerNumbers ∧ ¬ (n < 16 ∨ n = 0x14 ∨ n = 0x15)) ∧
    0x16 ∉ registerNumbers ∧ 0x4F ∉ registerNumbers :=
  ⟨fun _ _ => rfl, fun _ => rfl, ⟨15, rfl⟩, by decide⟩

end Sys2Proof.Machine.Tests
end

section
/-! PROOF. Ownership (00_scope.md R5, 60_exceptions.md R214): each agent writes only its own part of the state. The shared operations come first, then the
operations of the RX engine, of the TX scheduler and of the host, then the host's register port. -/

namespace Sys2Proof.Machine

/-- What only the TX scheduler writes is as before: `last_tx_ms`, `tx_inflight`, and the line with the answers it has ready (00_scope.md R5). -/
def transmitSideKept (s t : State) : Prop :=
  t.lastTxMs = s.lastTxMs ∧ t.txInflight = s.txInflight ∧ t.txLine = s.txLine ∧ t.emitAnswers = s.emitAnswers

/-- What the host leaves as it was: what only the RX engine and what only the TX scheduler writes. -/
def bothSidesKept (s t : State) : Prop := receiveSideKept s t ∧ transmitSideKept s t

/-! Doing nothing keeps a side, and so does one step that keeps it after another. -/

theorem sendSideKept_refl (s : State) : sendSideKept s s := by simp [sendSideKept]

theorem sendSideKept_trans {s t u : State} (h : sendSideKept s t) (g : sendSideKept t u) : sendSideKept s u := by
  simp_all [sendSideKept]

theorem receiveSideKept_refl (s : State) : receiveSideKept s s := by simp [receiveSideKept]

theorem receiveSideKept_trans {s t u : State} (h : receiveSideKept s t) (g : receiveSideKept t u) : receiveSideKept s u := by
  simp_all [receiveSideKept]

theorem bothSidesKept_refl (s : State) : bothSidesKept s s := ⟨receiveSideKept_refl s, rfl, rfl, rfl, rfl⟩

/-- What the RX engine may not write includes all that only the TX scheduler writes. -/
theorem sendSideKept.transmitSide {s t : State} (h : sendSideKept s t) : transmitSideKept s t := by
  obtain ⟨last, flight, -, -, -, line, answers, -⟩ := h
  exact ⟨last, flight, line, answers⟩

/-! Operations that may have no effect, and the answer of a step. -/

/-- What holds before an agent's operation and after it holds whether or not the block is stopped (10_state.md R26). -/
theorem Ops.whenRunning_induction {P : State → Prop} {s s' : State} (before : P s) (after : P s') : P (Ops.whenRunning s s') := by
  unfold Ops.whenRunning
  split
  · exact before
  · exact after

/-- A step that a stopped block may still take keeps the receive side if the step does (46_control_inputs.md R188). -/
theorem Ops.perhaps_receiveSideKept {f : State → State} (hf : ∀ s, receiveSideKept s (f s)) (s : State) :
    receiveSideKept s (Ops.perhaps f s) := by
  have counted : receiveSideKept s (Ops.countFree s) := by simp [receiveSideKept]
  unfold Ops.perhaps
  split
  · exact receiveSideKept_trans counted (hf _)
  · exact counted

/-- What relates a state to the answered next state relates it to every next state of that answer. -/
theorem kept_of_next {R : State → State → Prop} {s t u : State} (h : R s u) (e : (.next u : Answer) = .next t) : R s t := by
  cases e
  exact h

/-! The RX engine's operations keep the send side. -/

theorem Ops.raise_sendSideKept (e : Event) (s : State) : sendSideKept s (Ops.raise e s) := by simp [sendSideKept]

theorem Ops.shift_sendSideKept (n : Nat) (s : State) : sendSideKept s (Ops.shift n s) := by simp [sendSideKept]

theorem Ops.rxb_sendSideKept (b : Byte) (t : Time) (s : State) : sendSideKept s (Ops.rxb b t s) := by
  rcases Ops.rxb_cases b t s with ⟨_, e⟩ | ⟨_, e⟩ <;> simp [e, sendSideKept]

theorem Ops.typedFrame_sendSideKept (k : Kind) (p : List Byte) (now : Time) (s : State) : sendSideKept s (Ops.typedFrame k p now s) := by
  obtain ⟨_, _, _, _, _, _, _, _, _, e⟩ := Ops.typedFrame_frame k p now s
  simp [e, sendSideKept]

theorem Ops.dispatch_sendSideKept (addr ty : Byte) (p : List Byte) (now : Time) (s : State) :
    sendSideKept s (Ops.dispatch addr ty p now s) := by
  obtain ⟨_, _, _, _, _, _, _, _, _, e⟩ := Ops.dispatch_frame addr ty p now s
  simp [e, sendSideKept]

/-- One pass of CONSUME (42_link_engine.md R118 to R122): labels, DISPATCH and shifts. -/
theorem Ops.consumePass_sendSideKept (now : Time) (s : State) : sendSideKept s (Ops.consumePass now s).1 := by
  rcases Ops.consumePass_cases now s with ⟨_, e⟩ | ⟨_, e⟩ | ⟨_, _, e⟩ | ⟨L, _, e⟩ | ⟨L, _, e⟩ <;> rw [e]
  · exact sendSideKept_refl s
  · exact sendSideKept_trans (Ops.raise_sendSideKept _ s) (Ops.shift_sendSideKept _ _)
  · exact sendSideKept_refl s
  · have dispatched := sendSideKept_trans (Ops.raise_sendSideKept .frameOk s) (Ops.dispatch_sendSideKept (byteAt s.rxBuf 0)
      (byteAt s.rxBuf 2) (framePayload s.rxBuf L) now _)
    exact sendSideKept_trans dispatched (Ops.shift_sendSideKept _ _)
  · exact sendSideKept_trans (Ops.raise_sendSideKept _ s) (Ops.shift_sendSideKept _ _)

theorem Ops.consume_sendSideKept (now : Time) (s : State) : sendSideKept s (Ops.consume now s) :=
  Ops.consume_induction now (sendSideKept s) (fun _ h => sendSideKept_trans h (Ops.consumePass_sendSideKept now _)) s (sendSideKept_refl s)

theorem Ops.flushLoop_sendSideKept (now : Time) (n : Nat) (s : State) : sendSideKept s (Ops.flushLoop n now s) := by
  induction n generalizing s with
  | zero => exact sendSideKept_refl s
  | succ n ih =>
    unfold Ops.flushLoop
    split
    · have round := sendSideKept_trans (Ops.shift_sendSideKept 1 s) (Ops.consume_sendSideKept now _)
      exact sendSideKept_trans round (ih _)
    · exact sendSideKept_refl s

theorem Ops.tmo_sendSideKept (now : Time) (s : State) : sendSideKept s (Ops.tmo now s) := by
  unfold Ops.tmo
  split
  · exact sendSideKept_trans (Ops.raise_sendSideKept _ s) (Ops.flushLoop_sendSideKept now _ _)
  · exact sendSideKept_refl s

theorem Ops.ldn_sendSideKept (now : Time) (s : State) : sendSideKept s (Ops.ldn now s) := by
  rcases Ops.ldn_cases now s with ⟨_, e⟩ | ⟨_, e⟩ <;> simp [e, sendSideKept]

theorem Ops.readPhase_sendSideKept (rx : List (Byte × Time)) (fin : ReadEnd) (s : State) : sendSideKept s (Ops.readPhase rx fin s) := by
  have read : sendSideKept s (rx.foldl (fun s q => Ops.rxb q.1 q.2 s) s) :=
    List.foldlRecOn rx _ (sendSideKept_refl s) fun _ h _ _ => sendSideKept_trans h (Ops.rxb_sendSideKept _ _ _)
  unfold Ops.readPhase
  split
  · exact sendSideKept_trans read (Ops.raise_sendSideKept _ _)
  · exact read

theorem Ops.step_sendSideKept (rx : List (Byte × Time)) (fin : ReadEnd) (now : Time) (s : State) :
    sendSideKept s (Ops.step rx fin now s) := by
  unfold Ops.step
  split
  · exact sendSideKept_refl s
  · have consumed := sendSideKept_trans (Ops.readPhase_sendSideKept rx fin s) (Ops.consume_sendSideKept now _)
    have flushed := sendSideKept_trans consumed (Ops.tmo_sendSideKept now _)
    exact sendSideKept_trans flushed (Ops.ldn_sendSideKept now _)

theorem Ops.whenRunning_sendSideKept {s s' : State} (h : sendSideKept s s') : sendSideKept s (Ops.whenRunning s s') :=
  Ops.whenRunning_induction (sendSideKept_refl s) h

/-- A case row of CONSUME that answers is one pass of the loop (42_link_engine.md R118 to R122; log 13). -/
theorem exec_caseRow_next {i : Instr} {now : Time} {s t : State}
    (row : i = .waitHdr ∨ i = .resync ∨ i = .waitBody ∨ i = .crcOk now ∨ i = .crcBad) (h : exec i s = .next t) :
    t = Ops.whenRunning s (Ops.consumePass now s).1 := by
  -- Each row against each verdict: the row is refused but for its own verdict, for which the pass is that row's operation.
  have idle : Ops.whenRunning s s = s := Ops.whenRunning_induction (P := (· = s)) rfl rfl
  rcases row with rfl | rfl | rfl | rfl | rfl <;> cases v : frameCheck s.rxBuf <;>
    simp_all [exec, execWaitHdr, execResync, execWaitBody, execCrcOk, execCrcBad, Ops.consumePass]

theorem exec_caseRow_sendSideKept {i : Instr} {now : Time} {s t : State}
    (row : i = .waitHdr ∨ i = .resync ∨ i = .waitBody ∨ i = .crcOk now ∨ i = .crcBad) (h : exec i s = .next t) : sendSideKept s t := by
  rw [exec_caseRow_next row h]
  exact Ops.whenRunning_sendSideKept (Ops.consumePass_sendSideKept now s)

/-- The RX engine writes nothing outside the receive side and the channel store (60_exceptions.md R214). -/
theorem exec_rx_sendSideKept {i : Instr} {s t : State} (byRx : i.engine = some .rx) (h : exec i s = .next t) : sendSideKept s t := by
  cases i with
  | rc p now | gps p | batt p | linkstat p | att p | fmode p =>
    exact kept_of_next (Ops.whenRunning_sendSideKept (Ops.typedFrame_sendSideKept _ _ _ _)) h
  | shortPayload | unknown | foreignAddr => exact kept_of_next (Ops.whenRunning_sendSideKept (Ops.raise_sendSideKept _ _)) h
  | rxb b t => exact kept_of_next (Ops.whenRunning_sendSideKept (Ops.rxb_sendSideKept b t s)) h
  | consume now => exact kept_of_next (Ops.whenRunning_sendSideKept (Ops.consume_sendSideKept now s)) h
  | waitHdr | resync | waitBody | crcBad => exact exec_caseRow_sendSideKept (now := 0) (by simp) h
  | crcOk now => exact exec_caseRow_sendSideKept (now := now) (by simp) h
  | tmo now => exact kept_of_next (Ops.whenRunning_sendSideKept (Ops.tmo_sendSideKept now s)) h
  | ldn now => exact kept_of_next (Ops.whenRunning_sendSideKept (Ops.ldn_sendSideKept now s)) h
  | step rx fin now => exact kept_of_next (Ops.step_sendSideKept rx fin now s) h
  | dispatch addr ty p now => exact kept_of_next (Ops.whenRunning_sendSideKept (Ops.dispatch_sendSideKept addr ty p now s)) h
  | _ => simp [Instr.engine] at byRx

/-! The host's operations, and those of the control inputs, keep both sides. -/

theorem Ops.answer_bothSidesKept (r : Result) (s : State) : bothSidesKept s (Ops.answer r s) := by
  simp [bothSidesKept, receiveSideKept, transmitSideKept]

theorem Ops.raise_bothSidesKept (e : Event) (s : State) : bothSidesKept s (Ops.raise e s) := by
  simp [bothSidesKept, receiveSideKept, transmitSideKept]

theorem Ops.chSet_bothSidesKept (k : Int) (us : Chan) (s : State) : bothSidesKept s (Ops.chSet k us s) := by
  rcases Ops.chSet_cases k us s with ⟨_, _, e⟩ | ⟨_, e⟩ <;> simp [e, bothSidesKept, receiveSideKept, transmitSideKept]

theorem Ops.setMode_bothSidesKept (m : Mode) (s : State) : bothSidesKept s (Ops.setMode m s) := by
  simp [bothSidesKept, receiveSideKept, transmitSideKept]

theorem Ops.setIgnoreTel_bothSidesKept (v : Bool) (s : State) : bothSidesKept s (Ops.setIgnoreTel v s) := by
  simp [bothSidesKept, receiveSideKept, transmitSideKept]

theorem Ops.joyAxis_bothSidesKept (axis : Byte) (a : BitVec 16) (s : State) : bothSidesKept s (Ops.joyAxis axis a s) := by
  rcases Ops.joyAxis_cases axis a s with ⟨k, v, _, _, e⟩ | e <;> rw [e]
  · exact Ops.chSet_bothSidesKept k _ s
  · exact bothSidesKept_refl s

theorem Ops.stop_bothSidesKept (s : State) : bothSidesKept s (Ops.stop s) := by
  simp [bothSidesKept, receiveSideKept, transmitSideKept]

theorem Ops.setChannel_bothSidesKept (i us : Int) (s : State) : bothSidesKept s (Ops.setChannel i us s) := by
  unfold Ops.setChannel
  split
  · exact Ops.chSet_bothSidesKept i _ s
  · exact Ops.raise_bothSidesKept _ s

theorem Ops.whenRunning_bothSidesKept {s s' : State} (h : bothSidesKept s s') : bothSidesKept s (Ops.whenRunning s s') :=
  Ops.whenRunning_induction (bothSidesKept_refl s) h

/-- A pure function, a host's operation and a rejected line write neither agent's state (00_scope.md R5, 60_exceptions.md R209). -/
theorem exec_host_bothSidesKept {i : Instr} {s t : State} (byHost : i.engine = none) (h : exec i s = .next t) : bothSidesKept s t := by
  cases i with
  | crc8 | frameCheck | frameEncode | code2usRaw | code2us | us2code | pack | unpack | packChannels | unpackChannels | attDegrees
  | chGet | chSnapshot => exact kept_of_next (Ops.answer_bothSidesKept _ s) h
  | chSet k us => exact kept_of_next (Ops.whenRunning_bothSidesKept (Ops.chSet_bothSidesKept k us s)) h
  | setMode m => exact kept_of_next (Ops.whenRunning_bothSidesKept (Ops.setMode_bothSidesKept m s)) h
  | setIgnoreTel v => exact kept_of_next (Ops.whenRunning_bothSidesKept (Ops.setIgnoreTel_bothSidesKept v s)) h
  | joyAxis axis a => exact kept_of_next (Ops.whenRunning_bothSidesKept (Ops.joyAxis_bothSidesKept axis a s)) h
  | stop => exact kept_of_next (Ops.stop_bothSidesKept s) h
  | setChannel k us => exact kept_of_next (Ops.whenRunning_bothSidesKept (Ops.setChannel_bothSidesKept k us s)) h
  | setChannels pairs =>
    have rejected : bothSidesKept s (Ops.setChannels pairs s) := by
      obtain ⟨_, unchanged⟩ := Ops.setChannels_rejected pairs s byHost
      rw [unchanged]
      exact bothSidesKept_refl s
    exact kept_of_next (Ops.whenRunning_bothSidesKept rejected) h
  | _ => simp [Instr.engine] at byHost

/-! The TX scheduler's operations keep the receive side. -/

theorem Ops.stamp_receiveSideKept (now : Time) (s : State) : receiveSideKept s (Ops.stamp now s) := by simp [receiveSideKept]

theorem Ops.sendBuild_receiveSideKept (s : State) : receiveSideKept s (Ops.sendBuild s) := by simp [receiveSideKept]

theorem Ops.sendGate_receiveSideKept (s : State) : receiveSideKept s (Ops.sendGate s) := by
  rcases Ops.sendGate_cases s with ⟨_, _, _, e⟩ | ⟨_, _, _, e⟩ | ⟨_, e⟩ <;> simp [e, receiveSideKept]

theorem Ops.sendEmit_receiveSideKept (s : State) : receiveSideKept s (Ops.sendEmit s) := by
  rcases Ops.sendEmit_cases s with ⟨_, _, _, _, e⟩ | ⟨_, _, _, _, _, e⟩ | ⟨_, e⟩ <;> simp [e, receiveSideKept]

theorem Ops.send_receiveSideKept (now : Time) (s : State) : receiveSideKept s (Ops.send now s) := by
  have built := receiveSideKept_trans (Ops.stamp_receiveSideKept now s) (Ops.sendBuild_receiveSideKept _)
  have gated := receiveSideKept_trans built (Ops.sendGate_receiveSideKept _)
  exact receiveSideKept_trans gated (Ops.sendEmit_receiveSideKept _)

theorem Ops.tick_receiveSideKept (now : Time) (s : State) : receiveSideKept s (Ops.tick now s) := by
  rcases Ops.tick_cases now s with ⟨_, e⟩ | ⟨_, e⟩ <;> rw [e]
  · exact Ops.send_receiveSideKept now s
  · exact receiveSideKept_refl s

theorem Ops.applyControl_receiveSideKept (now : Time) (c : Control) (s : State) : receiveSideKept s (Ops.applyControl now c s) := by
  cases c with
  | chSet k us => exact (Ops.chSet_bothSidesKept k us s).1
  | setMode m => exact (Ops.setMode_bothSidesKept m s).1
  | joyAxis axis a => exact (Ops.joyAxis_bothSidesKept axis a s).1
  | forceSend => exact Ops.send_receiveSideKept now s

theorem Ops.applyControls_receiveSideKept (now : Time) (cs : List Control) (s : State) :
    receiveSideKept s (Ops.applyControls now cs s) :=
  List.foldlRecOn cs _ (receiveSideKept_refl s) fun _ h c _ => receiveSideKept_trans h (Ops.applyControl_receiveSideKept now c _)

theorem Ops.schedIter_receiveSideKept (inputs : List Control) (now : Time) (s : State) :
    receiveSideKept s (Ops.schedIter inputs now s) := by
  unfold Ops.schedIter
  split
  · exact receiveSideKept_refl s
  · exact receiveSideKept_trans (Ops.applyControls_receiveSideKept now inputs s) (Ops.tick_receiveSideKept now _)

theorem Ops.whenRunning_receiveSideKept {s s' : State} (h : receiveSideKept s s') : receiveSideKept s (Ops.whenRunning s s') :=
  Ops.whenRunning_induction (receiveSideKept_refl s) h

/-- SEND_GATE and SEND_EMIT that answer are the sub-step, which a stopped block may or may not take (45_send_scheduler.md R167, R168; log 8). -/
theorem execSendGate_receiveSideKept {s t : State} (h : execSendGate s = .next t) : receiveSideKept s t := by
  unfold execSendGate at h
  split at h
  · split at h
    · exact kept_of_next (Ops.perhaps_receiveSideKept Ops.sendGate_receiveSideKept s) h
    · exact kept_of_next (Ops.sendGate_receiveSideKept s) h
  · cases h

theorem execSendEmit_receiveSideKept {s t : State} (h : execSendEmit s = .next t) : receiveSideKept s t := by
  unfold execSendEmit at h
  split at h
  · split at h
    · exact kept_of_next (Ops.perhaps_receiveSideKept Ops.sendEmit_receiveSideKept s) h
    · exact kept_of_next (Ops.sendEmit_receiveSideKept s) h
  · cases h

/-- The TX scheduler writes nothing of the receive side (00_scope.md R5). -/
theorem exec_tx_receiveSideKept {i : Instr} {s t : State} (byTx : i.engine = some .tx) (h : exec i s = .next t) : receiveSideKept s t := by
  cases i with
  | txRc | sendBuild => exact kept_of_next (Ops.whenRunning_receiveSideKept (Ops.sendBuild_receiveSideKept s)) h
  | tick now => exact kept_of_next (Ops.whenRunning_receiveSideKept (Ops.tick_receiveSideKept now s)) h
  | sendGate => exact execSendGate_receiveSideKept h
  | sendEmit => exact execSendEmit_receiveSideKept h
  | send now | forceSend now | sendChannels now =>
    exact kept_of_next (Ops.whenRunning_receiveSideKept (Ops.send_receiveSideKept now s)) h
  | schedIter inputs now => exact kept_of_next (Ops.schedIter_receiveSideKept inputs now s) h
  | setChannel k us => exact kept_of_next (Ops.whenRunning_receiveSideKept (Ops.setChannel_bothSidesKept k us s).1) h
  | setChannels pairs => exact kept_of_next (Ops.whenRunning_receiveSideKept (Ops.applyControls_receiveSideKept 0 _ s)) h
  | setModeText m => exact kept_of_next (Ops.whenRunning_receiveSideKept (Ops.setMode_bothSidesKept m s).1) h
  | _ => simp [Instr.engine] at byTx

/-! Every operation, by the agent that executes it. -/

theorem exec_receiveSideKept {i : Instr} {s t : State} (notRx : i.engine ≠ some .rx) (h : exec i s = .next t) : receiveSideKept s t := by
  cases e : i.engine with
  | none => exact (exec_host_bothSidesKept e h).1
  | some a =>
    cases a with
    | rx => exact absurd e notRx
    | tx => exact exec_tx_receiveSideKept e h

theorem exec_transmitSideKept {i : Instr} {s t : State} (notTx : i.engine ≠ some .tx) (h : exec i s = .next t) : transmitSideKept s t := by
  cases e : i.engine with
  | none => exact (exec_host_bothSidesKept e h).2
  | some a =>
    cases a with
    | rx => exact (exec_rx_sendSideKept e h).transmitSide
    | tx => exact absurd e notTx

/-! The host's register port. -/

theorem Ops.writeCtrl_bothSidesKept (v : BitVec 32) (s : State) : bothSidesKept s (Ops.writeCtrl v s) := by
  simp [Ops.writeCtrl, bothSidesKept, receiveSideKept, transmitSideKept]

/-- A write of CMD stops the block or leaves a send to the scheduler's own turns (log 10). -/
theorem Ops.writeCmd_bothSidesKept (v : BitVec 32) (now : Time) (s : State) : bothSidesKept s (Ops.writeCmd v now s) := by
  have requested : bothSidesKept s (Ops.requestSend now s) := by
    unfold Ops.requestSend
    split <;> exact bothSidesKept_refl s
  unfold Ops.writeCmd
  split_ifs
  · exact Ops.stop_bothSidesKept s
  · exact requested
  · exact bothSidesKept_refl s

theorem Ops.busRead_bothSidesKept {n : Nat} {s t : State} (h : Ops.busRead n s = .next t) : bothSidesKept s t := by
  rcases Ops.busRead_cases n s with ⟨w, _, e⟩ | ⟨_, e⟩ <;> rw [e] at h
  · exact kept_of_next (Ops.answer_bothSidesKept (.word w) s) h
  · cases h

theorem Ops.busWrite_bothSidesKept {n : Nat} {v : BitVec 32} {now : Time} {s t : State} (h : Ops.busWrite n v now s = .next t) :
    bothSidesKept s t := by
  unfold Ops.busWrite at h
  split_ifs at h
  · exact kept_of_next (Ops.whenRunning_bothSidesKept (Ops.chSet_bothSidesKept _ v s)) h
  · exact kept_of_next (Ops.whenRunning_bothSidesKept (Ops.writeCtrl_bothSidesKept v s)) h
  · exact kept_of_next (Ops.whenRunning_bothSidesKept (Ops.writeCmd_bothSidesKept v now s)) h

/-- The host's access to the registers, a group or the record (10_state.md R33, 20_memory.md R51) writes neither agent's state. -/
theorem runEntry_hostAccess_bothSidesKept {e : Entry} {s t : State}
    (host : e = .recordCopy ∨ (∃ n, e = .regRead n) ∨ (∃ g, e = .groupRead g) ∨ ∃ n v now, e = .regWrite n v now)
    (h : runEntry e s = .next t) : bothSidesKept s t := by
  rcases host with rfl | ⟨n, rfl⟩ | ⟨g, rfl⟩ | ⟨n, v, now, rfl⟩
  · exact kept_of_next (Ops.answer_bothSidesKept _ s) h
  · exact Ops.busRead_bothSidesKept h
  · exact kept_of_next (Ops.answer_bothSidesKept _ s) h
  · exact Ops.busWrite_bothSidesKept h

/-- A step with an entry scheduled runs that entry in the state less it. -/
theorem step_of_agenda {s : State} {e : Entry} {rest : List Entry} (scheduled : s.agenda = e :: rest) :
    step s = runEntry e { s with agenda := rest } := by
  simp [step, scheduled]

/-- Settles O15: by the agent that executes the operation, and for the host's accesses by the entry. -/
theorem agentsWriteOnlyTheirOwnState : Obligations.AgentsWriteOnlyTheirOwnState := by
  refine ⟨fun _ _ _ => exec_rx_sendSideKept, fun _ _ _ => exec_receiveSideKept, fun _ _ _ => exec_transmitSideKept, ?_⟩
  intro s t e rest scheduled host h
  rw [step_of_agenda scheduled] at h
  have kept : bothSidesKept { s with agenda := rest } t := runEntry_hostAccess_bothSidesKept host h
  exact kept

end Sys2Proof.Machine
end

section
/-! PROOF. The payload of a decoded operation is that of a receivable frame (30_encoding.md R61). -/

namespace Sys2Proof

/-- The payload that an operation hands to DISPATCH or to a frame's handler has at most `PAYLOAD_MAX` bytes (30_encoding.md R61). -/
def Instr.payloadFits : Instr → Prop
  | .rc p _ | .gps p | .batt p | .linkstat p | .att p | .fmode p | .dispatch _ _ p _ => p.length ≤ Config.payloadMax
  | _ => True

theorem framePayload_le {buf : List Byte} {L : Nat} (h : frameCheck buf = .crcOk L) : (framePayload buf L).length ≤ Config.payloadMax := by
  obtain ⟨_, _, _, _⟩ := frameCheck_crcOk h
  rw [framePayload_length h, Config.payloadMax]
  omega

theorem payloadFits_of_wf {i : Instr} (h : i.wf = true) : i.payloadFits := by
  cases i with
  | rc | gps | batt | linkstat | att | fmode =>
    simp only [Instr.wf, typedPayloadOk, Bool.and_eq_true, decide_eq_true_eq] at h
    exact h.2
  | dispatch =>
    simp only [Instr.wf, payloadOk, Bool.and_eq_true, decide_eq_true_eq] at h
    exact h.2
  | _ => trivial

theorem selectRow_payloadFits (addr ty : Byte) {p : List Byte} (now : Time) (fits : p.length ≤ Config.payloadMax) :
    (selectRow addr ty p now).payloadFits := by
  unfold selectRow
  split
  · trivial
  · split
    · trivial
    · split
      · trivial
      · split <;> exact fits

theorem decodeFrame_payloadFits {now : Time} {bytes : List Byte} {i : Instr} (h : decodeFrame now bytes = .ok i) : i.payloadFits := by
  unfold decodeFrame at h
  split at h
  case h_1 L accepted =>
    split at h
    · cases h
      exact selectRow_payloadFits _ _ now (framePayload_le accepted)
    · cases h
  case h_2 => cases h

theorem decodeCall_payloadFits {bytes : List Byte} {i : Instr} (h : decodeCall bytes = .ok i) : i.payloadFits := by
  unfold decodeCall at h
  split at h
  · cases h
  · split at h
    · split at h
      · split at h
        · cases h
          exact payloadFits_of_wf ‹_›
        · cases h
      · cases h
    · cases h

/-! A command line is one of the four text commands, which carry no payload (30_encoding.md R76). -/

/-- Whether an operation is a text command. -/
def Instr.isText : Instr → Prop
  | .setChannel _ _ | .setChannels _ | .sendChannels _ | .setModeText _ => True
  | _ => False

theorem Instr.isText.payloadFits {i : Instr} (h : i.isText) : i.payloadFits := by
  cases i with
  | setChannel | setChannels | sendChannels | setModeText => trivial
  | _ => exact h.elim

theorem isText_of_map {α : Type} {o : Option α} {f : α → Instr} {i : Instr} (h : o.map f = some i) (text : ∀ a, (f a).isText) : i.isText := by
  obtain ⟨a, _, rfl⟩ := Option.map_eq_some_iff.mp h
  exact text a

theorem parseCommand_isText {now : Time} {line : List Byte} {i : Instr} (h : parseCommand now line = some i) : i.isText := by
  unfold parseCommand at h
  split at h
  · cases h
  · split_ifs at h
    · split at h
      · split at h <;> cases h
        trivial
      · cases h
    · exact isText_of_map h fun _ => trivial
    · cases h
      trivial
    · split at h
      · exact isText_of_map h fun _ => trivial
      · cases h

theorem looseCommand_isText {now : Time} {line : List Byte} {i : Instr} (h : looseCommand now line = some i) : i.isText := by
  unfold looseCommand at h
  split at h
  · cases h
  · split_ifs at h
    · split at h
      · split at h <;> cases h
        trivial
      · cases h
    · split at h <;> cases h
      trivial
    · cases h
      trivial
    · split at h
      · exact isText_of_map h fun _ => trivial
      · cases h

/-- A line is decoded to a text command, or it is one that may be a text command (91_not_in_source.md N9). -/
theorem decodeLine_isText {now : Time} {line : List Byte} {i : Instr}
    (h : decodeLine now line = .ok i ∨ decodeLine now line = .error (.openLexicalForm i)) : i.isText := by
  unfold decodeLine at h
  split at h
  case h_1 parsed =>
    rcases h with h | h <;> cases h
    exact parseCommand_isText parsed
  case h_2 =>
    split at h
    case h_1 => rcases h with h | h <;> cases h
    case h_2 =>
      split_ifs at h <;> rcases h with h | h <;> cases h
      trivial
    case h_3 _ loose =>
      rcases h with h | h <;> cases h
      exact looseCommand_isText loose

/-- Only a line's form can be open (91_not_in_source.md N9). -/
theorem decode_open {e : Encoded} {i : Instr} (h : decode e = .error (.openLexicalForm i)) : ∃ now line, e = .line now line := by
  cases e with
  | line now line => exact ⟨now, line, rfl⟩
  | rxFrame now bytes =>
    simp only [decode, decodeFrame] at h
    split at h
    · split at h <;> cases h
    · cases h
  | txFrame bytes =>
    simp only [decode] at h
    split at h <;> cases h
  | call bytes =>
    simp only [decode, decodeCall] at h
    split at h
    · cases h
    · split at h
      · split at h
        · split at h <;> cases h
        · cases h
      · cases h

theorem decode_payloadFits {e : Encoded} {i : Instr} (h : decode e = .ok i) : i.payloadFits := by
  cases e with
  | rxFrame now bytes => exact decodeFrame_payloadFits h
  | txFrame bytes =>
    simp only [decode] at h
    split at h <;> cases h
    trivial
  | line now line => exact (decodeLine_isText (.inl h)).payloadFits
  | call bytes => exact decodeCall_payloadFits h

theorem decode_open_payloadFits {e : Encoded} {i : Instr} (h : decode e = .error (.openLexicalForm i)) : i.payloadFits := by
  obtain ⟨now, line, rfl⟩ := decode_open h
  exact (decodeLine_isText (.inr h)).payloadFits

end Sys2Proof
end

section
/-! PROOF. What a step consists of. Every step of the machine is a chain of updates, each one of the shared operations of Machine/Ops.lean. What every
update keeps, every step keeps; nothing here says what an update keeps. -/

namespace Sys2Proof.Machine

/-- A label that moves the link in no direction (42_link_engine.md R124). -/
def Event.quiet : Event → Bool
  | .onLinkUp | .onLinkDown => false
  | _ => true

/-- One update of the block. A frame's payload is that of a receivable frame (30_encoding.md R61); `unobserved` is any write of the channel store, the host's
flags, the result or the model's own bookkeeping. -/
inductive Update (s : State) : State → Prop
  | raise {e : Event} (quiet : e.quiet = true) : Update s (Ops.raise e s)
  | shift (n : Nat) : Update s (Ops.shift n s)
  | rxb (b : Byte) (t : Time) : Update s (Ops.rxb b t s)
  | typedFrame (k : Kind) {p : List Byte} (now : Time) (fits : p.length ≤ Config.payloadMax) : Update s (Ops.typedFrame k p now s)
  | ldn (now : Time) : Update s (Ops.ldn now s)
  | stamp (now : Time) : Update s (Ops.stamp now s)
  | sendBuild : Update s (Ops.sendBuild s)
  | sendGate : Update s (Ops.sendGate s)
  | sendEmit : Update s (Ops.sendEmit s)
  | stop : Update s (Ops.stop s)
  | unobserved {t : State} (kept : bothSidesKept s t) (stopped : t.stopped = s.stopped) (events : t.events = s.events) : Update s t

/-- Updates one after another. -/
abbrev Updates : State → State → Prop := Relation.ReflTransGen Update

theorem Updates.refl (s : State) : Updates s s := Relation.ReflTransGen.refl

theorem Update.updates {s t : State} (h : Update s t) : Updates s t := Relation.ReflTransGen.single h

/-! The RX engine's operations. -/

theorem Ops.raise_updates {e : Event} (quiet : e.quiet = true) (s : State) : Updates s (Ops.raise e s) := (Update.raise quiet).updates

theorem Ops.dispatch_updates (addr ty : Byte) {p : List Byte} (now : Time) (fits : p.length ≤ Config.payloadMax) (s : State) :
    Updates s (Ops.dispatch addr ty p now s) := by
  unfold Ops.dispatch
  rcases Ops.dispatchBy_cases Config.types addr ty p now s with ⟨_, e⟩ | ⟨_, _, e⟩ | ⟨k, _, _, e⟩ <;> rw [e]
  · exact Ops.raise_updates rfl s
  · exact Ops.raise_updates rfl s
  · exact (Update.typedFrame k now fits).updates

theorem Ops.consumePass_updates (now : Time) (s : State) : Updates s (Ops.consumePass now s).1 := by
  rcases Ops.consumePass_cases now s with ⟨_, e⟩ | ⟨_, e⟩ | ⟨_, _, e⟩ | ⟨L, accepted, e⟩ | ⟨L, _, e⟩
  · rw [e]
  · rw [e]
    exact (Ops.raise_updates rfl s).tail (.shift 1)
  · rw [e]
  · rw [e]
    exact ((Ops.raise_updates rfl s).trans (Ops.dispatch_updates _ _ now (framePayload_le accepted) _)).tail (.shift (L + 2))
  · rw [e]
    exact (Ops.raise_updates rfl s).tail (.shift (L + 2))

theorem Ops.consume_updates (now : Time) (s : State) : Updates s (Ops.consume now s) :=
  Ops.consume_induction now (Updates s) (fun _ h => h.trans (Ops.consumePass_updates now _)) s (Updates.refl s)

theorem Ops.flushLoop_updates (now : Time) (n : Nat) (s : State) : Updates s (Ops.flushLoop n now s) := by
  induction n generalizing s with
  | zero => exact Updates.refl s
  | succ n ih =>
    unfold Ops.flushLoop
    split
    · exact ((Update.shift 1).updates.trans (Ops.consume_updates now _)).trans (ih _)
    · exact Updates.refl s

theorem Ops.tmo_updates (now : Time) (s : State) : Updates s (Ops.tmo now s) := by
  unfold Ops.tmo
  split
  · exact (Ops.raise_updates rfl s).trans (Ops.flushLoop_updates now _ _)
  · exact Updates.refl s

theorem Ops.readPhase_updates (rx : List (Byte × Time)) (fin : ReadEnd) (s : State) : Updates s (Ops.readPhase rx fin s) := by
  have read : Updates s (rx.foldl (fun s q => Ops.rxb q.1 q.2 s) s) :=
    List.foldlRecOn rx _ (Updates.refl s) fun _ h _ _ => h.tail (.rxb _ _)
  unfold Ops.readPhase
  split
  · exact read.tail (.raise rfl)
  · exact read

theorem Ops.step_updates (rx : List (Byte × Time)) (fin : ReadEnd) (now : Time) (s : State) : Updates s (Ops.step rx fin now s) := by
  unfold Ops.step
  split
  · exact Updates.refl s
  · have consumed := (Ops.readPhase_updates rx fin s).trans (Ops.consume_updates now _)
    exact (consumed.trans (Ops.tmo_updates now _)).tail (.ldn now)

/-! The operations of the TX scheduler and the host. -/

theorem Ops.send_updates (now : Time) (s : State) : Updates s (Ops.send now s) :=
  (((Update.stamp now).updates.tail .sendBuild).tail .sendGate).tail .sendEmit

theorem Ops.tick_updates (now : Time) (s : State) : Updates s (Ops.tick now s) := by
  rcases Ops.tick_cases now s with ⟨_, e⟩ | ⟨_, e⟩
  · rw [e]
    exact Ops.send_updates now s
  · rw [e]

theorem Ops.chSet_updates (k : Int) (us : Chan) (s : State) : Updates s (Ops.chSet k us s) := by
  refine (Update.unobserved (Ops.chSet_bothSidesKept k us s) ?_ ?_).updates <;>
    rcases Ops.chSet_cases k us s with ⟨_, _, e⟩ | ⟨_, e⟩ <;> rw [e]

theorem Ops.setMode_updates (m : Mode) (s : State) : Updates s (Ops.setMode m s) :=
  (Update.unobserved (Ops.setMode_bothSidesKept m s) rfl rfl).updates

theorem Ops.setIgnoreTel_updates (v : Bool) (s : State) : Updates s (Ops.setIgnoreTel v s) :=
  (Update.unobserved (Ops.setIgnoreTel_bothSidesKept v s) rfl rfl).updates

theorem Ops.answer_updates (r : Result) (s : State) : Updates s (Ops.answer r s) :=
  (Update.unobserved (Ops.answer_bothSidesKept r s) rfl rfl).updates

theorem Ops.countFree_updates (s : State) : Updates s (Ops.countFree s) :=
  (Update.unobserved (t := Ops.countFree s) (bothSidesKept_refl s) rfl rfl).updates

theorem Ops.joyAxis_updates (axis : Byte) (a : BitVec 16) (s : State) : Updates s (Ops.joyAxis axis a s) := by
  rcases Ops.joyAxis_cases axis a s with ⟨k, v, _, _, e⟩ | e
  · rw [e]
    exact Ops.chSet_updates k _ s
  · rw [e]

theorem Ops.applyControl_updates (now : Time) (c : Control) (s : State) : Updates s (Ops.applyControl now c s) := by
  cases c with
  | chSet k us => exact Ops.chSet_updates k us s
  | setMode m => exact Ops.setMode_updates m s
  | joyAxis axis a => exact Ops.joyAxis_updates axis a s
  | forceSend => exact Ops.send_updates now s

theorem Ops.applyControls_updates (now : Time) (cs : List Control) (s : State) : Updates s (Ops.applyControls now cs s) :=
  List.foldlRecOn cs _ (Updates.refl s) fun _ h c _ => h.trans (Ops.applyControl_updates now c _)

theorem Ops.schedIter_updates (inputs : List Control) (now : Time) (s : State) : Updates s (Ops.schedIter inputs now s) := by
  unfold Ops.schedIter
  split
  · exact Updates.refl s
  · exact (Ops.applyControls_updates now inputs s).trans (Ops.tick_updates now _)

theorem Ops.setChannel_updates (i us : Int) (s : State) : Updates s (Ops.setChannel i us s) := by
  unfold Ops.setChannel
  split
  · exact Ops.chSet_updates i _ s
  · exact Ops.raise_updates rfl s

theorem Ops.whenRunning_updates {s s' : State} (h : Updates s s') : Updates s (Ops.whenRunning s s') :=
  Ops.whenRunning_induction (Updates.refl s) h

theorem Ops.perhaps_updates {f : State → State} (hf : ∀ s, Updates s (f s)) (s : State) : Updates s (Ops.perhaps f s) := by
  unfold Ops.perhaps
  split
  · exact (Ops.countFree_updates s).trans (hf _)
  · exact Ops.countFree_updates s

theorem Ops.dropCommand_updates (s : State) : Updates s (Ops.dropCommand s) := Ops.whenRunning_updates (Ops.raise_updates rfl s)

/-! Every operation. -/

/-- SEND_GATE and SEND_EMIT that answer are the sub-step, which a stopped block may or may not take (45_send_scheduler.md R167, R168; log 8). -/
theorem exec_sendGate_next {s t : State} (h : exec .sendGate s = .next t) :
    t = if s.stopped then Ops.perhaps Ops.sendGate s else Ops.sendGate s := by
  change execSendGate s = .next t at h
  unfold execSendGate at h
  split at h <;> cases h
  rfl

theorem exec_sendEmit_next {s t : State} (h : exec .sendEmit s = .next t) :
    t = if s.stopped then Ops.perhaps Ops.sendEmit s else Ops.sendEmit s := by
  change execSendEmit s = .next t at h
  unfold execSendEmit at h
  split at h <;> cases h
  rfl

theorem exec_updates {i : Instr} {s t : State} (fits : i.payloadFits) (h : exec i s = .next t) : Updates s t := by
  cases i with
  | rc | gps | batt | linkstat | att | fmode =>
    exact kept_of_next (Ops.whenRunning_updates (Update.typedFrame _ _ fits).updates) h
  | dispatch addr ty p now => exact kept_of_next (Ops.whenRunning_updates (Ops.dispatch_updates addr ty now fits s)) h
  | shortPayload | unknown | foreignAddr => exact kept_of_next (Ops.whenRunning_updates (Ops.raise_updates rfl s)) h
  | crc8 | frameCheck | frameEncode | code2usRaw | code2us | us2code | pack | unpack | packChannels | unpackChannels | attDegrees
  | chGet | chSnapshot => exact kept_of_next (Ops.answer_updates _ s) h
  | rxb b t => exact kept_of_next (Ops.whenRunning_updates (Update.rxb b t).updates) h
  | consume now => exact kept_of_next (Ops.whenRunning_updates (Ops.consume_updates now s)) h
  | waitHdr | resync | waitBody | crcBad =>
    rw [exec_caseRow_next (now := 0) (by simp) h]
    exact Ops.whenRunning_updates (Ops.consumePass_updates 0 s)
  | crcOk now =>
    rw [exec_caseRow_next (now := now) (by simp) h]
    exact Ops.whenRunning_updates (Ops.consumePass_updates now s)
  | tmo now => exact kept_of_next (Ops.whenRunning_updates (Ops.tmo_updates now s)) h
  | ldn now => exact kept_of_next (Ops.whenRunning_updates (Update.ldn now).updates) h
  | step rx fin now => exact kept_of_next (Ops.step_updates rx fin now s) h
  | chSet k us => exact kept_of_next (Ops.whenRunning_updates (Ops.chSet_updates k us s)) h
  | tick now => exact kept_of_next (Ops.whenRunning_updates (Ops.tick_updates now s)) h
  | txRc | sendBuild => exact kept_of_next (Ops.whenRunning_updates Update.sendBuild.updates) h
  | sendGate =>
    rw [exec_sendGate_next h]
    split
    · exact Ops.perhaps_updates (fun _ => Update.sendGate.updates) s
    · exact Update.sendGate.updates
  | sendEmit =>
    rw [exec_sendEmit_next h]
    split
    · exact Ops.perhaps_updates (fun _ => Update.sendEmit.updates) s
    · exact Update.sendEmit.updates
  | send now | forceSend now | sendChannels now => exact kept_of_next (Ops.whenRunning_updates (Ops.send_updates now s)) h
  | schedIter inputs now => exact kept_of_next (Ops.schedIter_updates inputs now s) h
  | setMode m | setModeText m => exact kept_of_next (Ops.whenRunning_updates (Ops.setMode_updates m s)) h
  | setIgnoreTel v => exact kept_of_next (Ops.whenRunning_updates (Ops.setIgnoreTel_updates v s)) h
  | joyAxis axis a => exact kept_of_next (Ops.whenRunning_updates (Ops.joyAxis_updates axis a s)) h
  | stop => exact kept_of_next Update.stop.updates h
  | setChannel k us => exact kept_of_next (Ops.whenRunning_updates (Ops.setChannel_updates k us s)) h
  | setChannels pairs => exact kept_of_next (Ops.whenRunning_updates (Ops.applyControls_updates 0 _ s)) h

/-! The agents' turns (20_memory.md R52). -/

theorem Agents.setPlan_updates (a : Engine) (ts : List Task) (s : State) : Updates s (Agents.setPlan a ts s) := by
  have kept : bothSidesKept s (Agents.setPlan a ts s) := by simp [bothSidesKept, receiveSideKept, transmitSideKept]
  exact (Update.unobserved kept (Agents.setPlan_stopped a ts s) (Agents.setPlan_events a ts s)).updates

theorem Agents.runTask_updates (t : Task) (s : State) : Updates s (Agents.runTask t s).1 := by
  cases t with
  | rxb b t => exact (Update.rxb b t).updates
  | readErr => exact Ops.raise_updates rfl s
  | consume now =>
    have pass := Ops.consumePass_updates now s
    simp only [Agents.runTask]
    split <;> simp_all
  | tmoTest now =>
    simp only [Agents.runTask]
    split
    · exact Ops.raise_updates rfl s
    · exact Updates.refl s
  | tmoShift now =>
    simp only [Agents.runTask]
    split
    · exact (Update.shift 1).updates
    · exact Updates.refl s
  | ldn now => exact (Update.ldn now).updates
  | control c now =>
    cases c with
    | forceSend => exact (Update.stamp now).updates
    | chSet k us => exact Ops.chSet_updates k us s
    | setMode m => exact Ops.setMode_updates m s
    | joyAxis axis a => exact Ops.joyAxis_updates axis a s
  | tick now =>
    simp only [Agents.runTask]
    split
    · exact (Update.stamp now).updates
    · exact Updates.refl s
  | stamp now => exact (Update.stamp now).updates
  | build => exact Update.sendBuild.updates
  | gate => exact Update.sendGate.updates
  | emit => exact Update.sendEmit.updates

theorem Agents.wholeTask_updates (s : State) (t : Task) : Updates s (Agents.wholeTask s t) := by
  cases t with
  | consume now => exact Ops.consume_updates now s
  | tmoTest now => exact Ops.tmo_updates now s
  | tmoShift now => exact Ops.flushLoop_updates now _ s
  | control c now => exact Ops.applyControl_updates now c s
  | tick now => exact Ops.tick_updates now s
  | rxb | readErr | ldn | stamp | build | gate | emit => exact Agents.runTask_updates _ s

theorem Agents.finish_updates (a : Engine) (s : State) : Updates s (Agents.finish a s) := by
  have taken : Updates s ((Agents.planOf a s).foldl Agents.wholeTask s) :=
    List.foldlRecOn _ _ (Updates.refl s) fun _ h t _ => h.trans (Agents.wholeTask_updates _ t)
  exact taken.trans (Agents.setPlan_updates a [] _)

theorem Agents.settle_updates (i : Instr) (s : State) : Updates s (Agents.settle i s) := by
  unfold Agents.settle
  split
  · exact Updates.refl s
  · split
    · exact Agents.finish_updates _ s
    · exact Updates.refl s

theorem Agents.begin_updates (a : Engine) (ts : List Task) (s : State) : Updates s (Agents.begin a ts s) := by
  unfold Agents.begin
  split
  · exact Updates.refl s
  · exact Agents.setPlan_updates a _ s

theorem Agents.turnAfterStop_updates (a : Engine) (t : Task) (ts : List Task) (s : State) : Updates s (Agents.turnAfterStop a t ts s) := by
  unfold Agents.turnAfterStop
  split
  · exact (Agents.setPlan_updates a ts s).trans (Ops.perhaps_updates (fun _ => Update.sendGate.updates) _)
  · exact (Agents.setPlan_updates a ts s).trans (Ops.perhaps_updates (fun _ => Update.sendEmit.updates) _)
  · exact Agents.setPlan_updates a [] s

theorem Agents.turn_updates (a : Engine) (s : State) : Updates s (Agents.turn a s) := by
  unfold Agents.turn
  split
  · exact Updates.refl s
  · split
    · exact Agents.turnAfterStop_updates a _ _ s
    · exact (Agents.runTask_updates _ s).trans (Agents.setPlan_updates a _ _)

/-! The host's register port (10_state.md R33). -/

theorem Ops.writeCmd_updates (v : BitVec 32) (now : Time) (s : State) : Updates s (Ops.writeCmd v now s) := by
  have requested : Updates s (Ops.requestSend now s) := by
    unfold Ops.requestSend
    split
    · exact Updates.refl s
    · exact Agents.setPlan_updates .tx _ s
  unfold Ops.writeCmd
  split_ifs
  · exact Update.stop.updates
  · exact requested
  · exact Updates.refl s

theorem Ops.busRead_updates {n : Nat} {s t : State} (h : Ops.busRead n s = .next t) : Updates s t := by
  rcases Ops.busRead_cases n s with ⟨w, _, e⟩ | ⟨_, e⟩ <;> rw [e] at h
  · exact kept_of_next (Ops.answer_updates (.word w) s) h
  · cases h

theorem Ops.busWrite_updates {n : Nat} {v : BitVec 32} {now : Time} {s t : State} (h : Ops.busWrite n v now s = .next t) : Updates s t := by
  unfold Ops.busWrite at h
  split_ifs at h
  · exact kept_of_next (Ops.whenRunning_updates (Ops.chSet_updates _ v s)) h
  · exact kept_of_next (Ops.whenRunning_updates ((Ops.setIgnoreTel_updates _ s).trans (Ops.setMode_updates _ _))) h
  · exact kept_of_next (Ops.whenRunning_updates (Ops.writeCmd_updates v now s)) h

/-! A step. -/

/-- What an invocation comes to, by what it decodes to. -/
theorem fetch_cases (e : Encoded) :
    (∃ i, decode e = .ok i ∧ fetch e = .run i) ∨ (∃ i, decode e = .error (.openLexicalForm i) ∧ fetch e = .mayRun i) ∨
    fetch e = .drop ∨ ∃ r, fetch e = .stop r := by
  unfold fetch
  split
  case h_1 i d => exact .inl ⟨i, d, rfl⟩
  case h_2 i d => exact .inr (.inl ⟨i, d, rfl⟩)
  case h_3 => exact .inr (.inr (.inl rfl))
  case h_4 => exact .inr (.inr (.inr ⟨_, rfl⟩))

/-- An invocation consists of updates if its operation does, however it is run. -/
theorem receive_updates {go : Instr → State → Answer} (hgo : ∀ {i s t}, i.payloadFits → go i s = .next t → Updates s t)
    {e : Encoded} {s t : State} (h : receive go e s = .next t) : Updates s t := by
  rcases fetch_cases e with ⟨i, d, f⟩ | ⟨i, d, f⟩ | f | ⟨r, f⟩ <;> simp only [receive, f] at h
  · exact (Agents.settle_updates i s).trans (hgo (decode_payloadFits d) h)
  · split at h
    · exact ((Ops.countFree_updates s).trans (Agents.settle_updates i _)).trans (hgo (decode_open_payloadFits d) h)
    · exact kept_of_next ((Ops.countFree_updates s).trans (Ops.dropCommand_updates _)) h
  · exact kept_of_next (Ops.dropCommand_updates s) h
  · cases h

theorem beginOp_updates {i : Instr} {s t : State} (fits : i.payloadFits) (h : beginOp i s = .next t) : Updates s t := by
  unfold beginOp at h
  split at h
  · exact kept_of_next (Agents.begin_updates _ _ s) h
  · exact exec_updates fits h

theorem runEntry_updates {e : Entry} {s t : State} (h : runEntry e s = .next t) : Updates s t := by
  cases e with
  | invoke r => exact receive_updates exec_updates h
  | start r => exact receive_updates beginOp_updates h
  | resume a => exact kept_of_next (Agents.turn_updates a s) h
  | regRead n => exact Ops.busRead_updates h
  | groupRead g => exact kept_of_next (Ops.answer_updates _ s) h
  | regWrite n v now => exact Ops.busWrite_updates h
  | recordCopy => exact kept_of_next (Ops.answer_updates _ s) h

/-- Every step is a chain of updates. -/
theorem step_updates {s t : State} (h : step s = .next t) : Updates s t := by
  cases scheduled : s.agenda with
  | nil =>
    simp only [step, scheduled] at h
    exact kept_of_next (Updates.refl s) h
  | cons e rest =>
    rw [step_of_agenda scheduled] at h
    have taken : Updates s { s with agenda := rest } :=
      (Update.unobserved (t := { s with agenda := rest }) (bothSidesKept_refl s) rfl rfl).updates
    exact taken.trans (runEntry_updates h)

end Sys2Proof.Machine
end

section
/-! PROOF. The frame that SEND_BUILD forms is sendable (30_encoding.md R73): FRAME_CHECK accepts what FRAME_ENCODE lays out. -/

namespace Sys2Proof

theorem frameBytes_length (addr ty : Byte) (p : List Byte) : (frameBytes addr ty p).length = p.length + 4 := by
  simp [frameBytes]

/-- FRAME_CHECK accepts the bytes of a frame of legal length (40_frame_codec.md R92, R93). -/
theorem frameCheck_frameBytes (addr ty : Byte) {p : List Byte} (least : 1 ≤ p.length) (most : p.length ≤ 60) :
    frameCheck (frameBytes addr ty p) = .crcOk (p.length + 2) := by
  have len : (byteAt (frameBytes addr ty p) 1).toNat = p.length + 2 := by
    simp only [byteAt, frameBytes, List.cons_append, List.getD_cons_succ, List.getD_cons_zero, BitVec.toNat_ofNat]
    omega
  have covered : ((frameBytes addr ty p).drop 2).take (p.length + 1) = ty :: p := by simp [frameBytes]
  have last : byteAt (frameBytes addr ty p) (p.length + 3) = crc8 (ty :: p) := by simp [byteAt, frameBytes]
  have size := frameBytes_length addr ty p
  unfold frameCheck
  rw [if_neg (by omega)]
  simp only [len, Config.lenMin, Config.lenMax]
  rw [if_neg (by omega), if_neg (by omega), if_pos]
  rw [last]
  exact congrArg crc8 covered

theorem packChannels_length (us : Vector Chan 16) : (packChannels us).length = 22 := by simp [packChannels, pack]

end Sys2Proof

namespace Sys2Proof.Machine

theorem sendable_rcFrame (us : Vector Chan 16) : sendable (Ops.rcFrame us) = true := by
  have size := packChannels_length us
  have accepted : frameCheck (Ops.rcFrame us) = .crcOk 24 := by
    rw [Ops.rcFrame, frameCheck_frameBytes _ _ (by omega) (by omega), size]
  have length : (Ops.rcFrame us).length = 26 := by rw [Ops.rcFrame, frameBytes_length, size]
  have header : (Ops.rcFrame us).take 3 = [Config.addrFc, 0x18, Config.typeRc] := by simp [Ops.rcFrame, frameBytes, size]
  simp [sendable, accepted, length, header]

theorem sendable_ne_nil {f : List Byte} (h : sendable f = true) : f ≠ [] := by
  rintro rfl
  simp [sendable] at h

end Sys2Proof.Machine
end

section
/-! PROOF. The invariant of the block: it holds after reset and every update keeps it, so every step does. -/

namespace Sys2Proof.Machine

/-! Strobes in the history (42_link_engine.md R124). -/

theorem linkAfter_append (up : Bool) (es fs : List Event) :
    linkAfter up (es ++ fs) = (linkAfter up es).bind fun now => linkAfter now fs := by
  induction es generalizing up with
  | nil => rfl
  | cons e es ih => cases e <;> cases up <;> simp [linkAfter, ih]

theorem linkAfter_quiet (up : Bool) {e : Event} (quiet : e.quiet = true) : linkAfter up [e] = some up := by
  cases e with
  | onLinkUp | onLinkDown => cases quiet
  | _ => rfl

/-- A history that agrees with `link_up` agrees with it after more entries that move the link on from there. -/
theorem linkAfter_more {up now : Bool} {es fs : List Event} (h : linkAfter false es = some up) (more : linkAfter up fs = some now) :
    linkAfter false (es ++ fs) = some now := by
  rw [linkAfter_append, h]
  exact more

/-! What is in flight and on the line. -/

theorem Inflight.ok_iff (x : Inflight) : x.ok = true ↔ ∀ f, x = .built f ∨ x = .passed f → sendable f = true := by
  cases x <;> simp [Inflight.ok]

theorem keptPart_ok {f : List Byte} (n : Nat) (h : sendable f = true) : (TxItem.partialFrame (Ops.keptPart f n)).ok :=
  ⟨f, h, List.take_prefix _ f, Ops.keptPart_lt f n (sendable_ne_nil h)⟩

/-! Every update keeps the invariant. -/

theorem Inv.raise {s : State} (h : Inv s) {e : Event} (quiet : e.quiet = true) : Inv (Ops.raise e s) :=
  { h with link := linkAfter_more h.link (linkAfter_quiet _ quiet) }

theorem Inv.typedFrame {s : State} (h : Inv s) (k : Kind) {p : List Byte} (now : Time) (fits : p.length ≤ Config.payloadMax) :
    Inv (Ops.typedFrame k p now s) := by
  rcases Ops.typedFrame_cases k p now s with ⟨_, e⟩ | ⟨_, ⟨_, e⟩ | ⟨_, e⟩ | ⟨_, e⟩ | ⟨_, e⟩ | ⟨_, e⟩ | ⟨_, e⟩⟩ <;> rw [e]
  · exact h.raise rfl
  · rw [Ops.acceptRc_eq]
    exact { h with link := linkAfter_more h.link (by cases s.linkUp <;> rfl) }
  · exact { h with }
  · exact { h with }
  · exact { h with }
  · exact { h with }
  · exact { h with flightMode := fits }

theorem Inv.ldn {s : State} (h : Inv s) (now : Time) : Inv (Ops.ldn now s) := by
  rcases Ops.ldn_cases now s with ⟨late, e⟩ | ⟨_, e⟩ <;> rw [e]
  · have up : s.linkUp = true := by
      simp only [linkTimedOut, Bool.and_eq_true] at late
      exact late.1
    exact { h with link := linkAfter_more h.link (by rw [up]; rfl) }
  · exact h

theorem Inv.sendGate {s : State} (h : Inv s) : Inv (Ops.sendGate s) := by
  rcases Ops.sendGate_cases s with ⟨f, built, _, e⟩ | ⟨f, _, _, e⟩ | ⟨_, e⟩ <;> rw [e]
  · have sound : sendable f = true := (Inflight.ok_iff _).mp h.inflight f (.inl built)
    exact { h with inflight := sound }
  · exact { h with inflight := rfl, link := linkAfter_more h.link rfl }
  · exact h

theorem Inv.sendEmit {s : State} (h : Inv s) : Inv (Ops.sendEmit s) := by
  have sound : ∀ f, s.txInflight = .passed f → sendable f = true := fun f passed => (Inflight.ok_iff _).mp h.inflight f (.inr passed)
  have line : ∀ y : TxItem, y.ok → ∀ x ∈ s.txLine ++ [y], x.ok := by
    intro y hy x hx
    rcases List.mem_append.mp hx with old | new
    · exact h.line x old
    · rw [List.mem_singleton.mp new]
      exact hy
  rcases Ops.sendEmit_cases s with ⟨f, _, _, passed, e⟩ | ⟨f, _, _, m, passed, e⟩ | ⟨_, e⟩ <;> rw [e]
  · exact { h with inflight := rfl, line := line _ (sound f passed) }
  · exact { h with inflight := rfl, line := line _ (keptPart_ok m (sound f passed)), link := linkAfter_more h.link rfl }
  · exact h

theorem Inv.update {s t : State} (h : Inv s) (u : Update s t) : Inv t := by
  cases u with
  | raise quiet => exact h.raise quiet
  | shift n => exact { h with buffer := Ops.shift_wf n s h.buffer }
  | rxb b t =>
    have buffer := Ops.rxb_wf b t s h.buffer
    rcases Ops.rxb_cases b t s with ⟨_, e⟩ | ⟨_, e⟩ <;> rw [e] at buffer ⊢
    · exact { h with buffer, link := linkAfter_more h.link rfl }
    · exact { h with buffer }
  | typedFrame k now fits => exact h.typedFrame k now fits
  | ldn now => exact h.ldn now
  | stamp now => exact { h with }
  | sendBuild => exact { h with inflight := sendable_rcFrame s.ch }
  | sendGate => exact h.sendGate
  | sendEmit => exact h.sendEmit
  | stop => exact { h with }
  | unobserved kept _ events =>
    obtain ⟨⟨buf, _, _, up, _, _, _, _, fm⟩, _, flight, line, _⟩ := kept
    exact ⟨buf ▸ h.buffer, fm ▸ h.flightMode, flight ▸ h.inflight, line ▸ h.line, by rw [events, up]; exact h.link⟩

theorem Inv.updates {s t : State} (h : Inv s) (us : Updates s t) : Inv t := by
  induction us with
  | refl => exact h
  | tail _ u ih => exact ih.update u

/-- Settles O10: every step is a chain of updates, and each keeps the invariant. -/
theorem everyStepKeepsTheBlockSound : Obligations.EveryStepKeepsTheBlockSound :=
  fun _ _ h stepped => h.updates (step_updates stepped)

/-- Settles O11: nothing is buffered, in flight or on the line, and the history is empty with the link down. -/
theorem resetStateIsSound : Obligations.ResetStateIsSound := by
  intro m v
  exact ⟨Memory.wf_nil, Nat.zero_le _, rfl, fun _ h => absurd h List.not_mem_nil, rfl⟩

end Sys2Proof.Machine
end

section
/-! PROOF. What no step takes back: the stopped bit, the valid bits, the history and the line (10_state.md R21, R26; 60_exceptions.md R205). -/

namespace Sys2Proof.Machine

/-- The stopped bit and the valid bits stay set, and the history and the line only grow. -/
structure StickyKept (s t : State) : Prop where
  stopped : s.stopped = true → t.stopped = true
  gps : s.gps.valid = true → t.gps.valid = true
  bat : s.bat.valid = true → t.bat.valid = true
  att : s.att.valid = true → t.att.valid = true
  linkstat : s.linkstat.valid = true → t.linkstat.valid = true
  fm : s.fm.valid = true → t.fm.valid = true
  events : s.events <+: t.events
  line : s.txLine <+: t.txLine

theorem StickyKept.refl (s : State) : StickyKept s s := ⟨id, id, id, id, id, id, List.prefix_rfl, List.prefix_rfl⟩

theorem StickyKept.trans {s t u : State} (h : StickyKept s t) (g : StickyKept t u) : StickyKept s u where
  stopped := g.stopped ∘ h.stopped
  gps := g.gps ∘ h.gps
  bat := g.bat ∘ h.bat
  att := g.att ∘ h.att
  linkstat := g.linkstat ∘ h.linkstat
  fm := g.fm ∘ h.fm
  events := h.events.trans g.events
  line := h.line.trans g.line

/-- A typed frame sets its group's valid bit and clears none (43_dispatch.md R145). -/
theorem Ops.typedFrame_stickyKept (k : Kind) (p : List Byte) (now : Time) (s : State) : StickyKept s (Ops.typedFrame k p now s) := by
  rcases Ops.typedFrame_cases k p now s with ⟨_, e⟩ | ⟨_, ⟨_, e⟩ | ⟨_, e⟩ | ⟨_, e⟩ | ⟨_, e⟩ | ⟨_, e⟩ | ⟨_, e⟩⟩ <;> rw [e]
  · exact { StickyKept.refl s with events := List.prefix_append _ _ }
  · rw [Ops.acceptRc_eq]
    exact { StickyKept.refl s with events := List.prefix_append _ _ }
  · exact { StickyKept.refl s with gps := fun _ => rfl }
  · exact { StickyKept.refl s with bat := fun _ => rfl }
  · exact { StickyKept.refl s with linkstat := fun _ => rfl }
  · exact { StickyKept.refl s with att := fun _ => rfl }
  · exact { StickyKept.refl s with fm := fun _ => rfl }

theorem Ops.sendGate_stickyKept (s : State) : StickyKept s (Ops.sendGate s) := by
  rcases Ops.sendGate_cases s with ⟨_, _, _, e⟩ | ⟨_, _, _, e⟩ | ⟨_, e⟩ <;> rw [e]
  · exact { StickyKept.refl s with }
  · exact { StickyKept.refl s with events := List.prefix_append _ _ }
  · exact StickyKept.refl s

theorem Ops.sendEmit_stickyKept (s : State) : StickyKept s (Ops.sendEmit s) := by
  rcases Ops.sendEmit_cases s with ⟨_, _, _, _, e⟩ | ⟨_, _, _, _, _, e⟩ | ⟨_, e⟩ <;> rw [e]
  · exact { StickyKept.refl s with line := List.prefix_append _ _ }
  · exact { StickyKept.refl s with line := List.prefix_append _ _, events := List.prefix_append _ _ }
  · exact StickyKept.refl s

theorem Update.stickyKept {s t : State} (u : Update s t) : StickyKept s t := by
  cases u with
  | raise => exact { StickyKept.refl s with events := List.prefix_append _ _ }
  | shift | stamp | sendBuild => exact { StickyKept.refl s with }
  | rxb b t =>
    rcases Ops.rxb_cases b t s with ⟨_, e⟩ | ⟨_, e⟩ <;> rw [e]
    · exact { StickyKept.refl s with events := List.prefix_append _ _ }
    · exact { StickyKept.refl s with }
  | typedFrame k now _ => exact Ops.typedFrame_stickyKept k _ now s
  | ldn now =>
    rcases Ops.ldn_cases now s with ⟨_, e⟩ | ⟨_, e⟩ <;> rw [e]
    · exact { StickyKept.refl s with events := List.prefix_append _ _ }
    · exact StickyKept.refl s
  | sendGate => exact Ops.sendGate_stickyKept s
  | sendEmit => exact Ops.sendEmit_stickyKept s
  | stop => exact { StickyKept.refl s with stopped := fun _ => rfl }
  | unobserved kept stopped events =>
    obtain ⟨⟨_, _, _, _, gps, bat, att, linkstat, fm⟩, _, _, line, _⟩ := kept
    refine ⟨?_, ?_, ?_, ?_, ?_, ?_, ?_, ?_⟩
    · rw [stopped]; exact id
    · rw [gps]; exact id
    · rw [bat]; exact id
    · rw [att]; exact id
    · rw [linkstat]; exact id
    · rw [fm]; exact id
    · rw [events]
    · rw [line]

theorem Updates.stickyKept {s t : State} (us : Updates s t) : StickyKept s t := by
  induction us with
  | refl => exact StickyKept.refl s
  | tail _ u ih => exact ih.trans u.stickyKept

/-- Settles O13: every step is a chain of updates, and none of them takes anything back. -/
theorem stepsNeverClearStickyState : Obligations.StepsNeverClearStickyState := by
  intro s t stepped
  obtain ⟨stopped, gps, bat, att, linkstat, fm, events, line⟩ := (step_updates stepped).stickyKept
  exact ⟨stopped, gps, bat, att, linkstat, fm, events, line⟩

end Sys2Proof.Machine
end

section
/-! PROOF. A stopped block takes no step but for a frame in flight (10_state.md R26, 46_control_inputs.md R188). -/

namespace Sys2Proof.Machine

/-- An operation that has no effect in a stopped block answers the state as it was. -/
theorem next_whenRunning_stopped {s s' : State} (halted : s.stopped = true) : (.next (Ops.whenRunning s s') : Answer) = .next s := by
  rw [Ops.whenRunning_stopped s s' halted]

theorem Ops.step_stopped (rx : List (Byte × Time)) (fin : ReadEnd) (now : Time) {s : State} (halted : s.stopped = true) :
    Ops.step rx fin now s = s := by
  simp [Ops.step, halted]

theorem Ops.schedIter_stopped (inputs : List Control) (now : Time) {s : State} (halted : s.stopped = true) :
    Ops.schedIter inputs now s = s := by
  simp [Ops.schedIter, halted]

/-- An agent's operation other than the two sub-steps of a frame in flight leaves a stopped block as it was (R26). -/
theorem exec_stopped {i : Instr} {s t : State} (halted : s.stopped = true) (agent : i.engine ≠ none) (notGate : i ≠ .sendGate)
    (notEmit : i ≠ .sendEmit) (h : exec i s = .next t) : t = s := by
  have idle : ∀ {s'}, exec i s = .next (Ops.whenRunning s s') → t = s := by
    intro s' e
    rw [e, next_whenRunning_stopped halted] at h
    exact kept_of_next (R := fun s t => t = s) rfl h
  cases i with
  | rc | gps | batt | linkstat | att | fmode | shortPayload | unknown | foreignAddr | txRc | rxb | consume | tmo | ldn | dispatch | tick
  | sendBuild | send | forceSend | setChannel | setChannels | sendChannels | setModeText => exact idle rfl
  | waitHdr | resync | waitBody | crcBad => rw [exec_caseRow_next (now := 0) (by simp) h, Ops.whenRunning_stopped _ _ halted]
  | crcOk now => rw [exec_caseRow_next (now := now) (by simp) h, Ops.whenRunning_stopped _ _ halted]
  | step rx fin now => exact kept_of_next (R := fun s t => t = s) (Ops.step_stopped rx fin now halted) h
  | schedIter inputs now => exact kept_of_next (R := fun s t => t = s) (Ops.schedIter_stopped inputs now halted) h
  | sendGate => exact absurd rfl notGate
  | sendEmit => exact absurd rfl notEmit
  | _ => exact absurd rfl agent

/-! The frame in flight (log 8). -/

theorem exec_sendGate_stopped {s : State} {f : List Byte} (halted : s.stopped = true) (built : s.txInflight = .built f) :
    exec .sendGate s = .next (Ops.perhaps Ops.sendGate s) := by
  simp [exec, execSendGate, halted, built]

theorem exec_sendEmit_stopped {s : State} {f : List Byte} (halted : s.stopped = true) (passed : s.txInflight = .passed f) :
    exec .sendEmit s = .next (Ops.perhaps Ops.sendEmit s) := by
  simp [exec, execSendEmit, halted, passed]

/-- A step that a stopped block may still take is taken or not; in either case one free value is used. -/
theorem Ops.perhaps_cases (f : State → State) (s : State) :
    Ops.perhaps f s = { s with freeCount := s.freeCount + 1 } ∨ Ops.perhaps f s = f { s with freeCount := s.freeCount + 1 } := by
  unfold Ops.perhaps
  split
  · exact .inr rfl
  · exact .inl rfl

/-- The gate of a built frame in a stopped block (46_control_inputs.md R188). -/
theorem sendGate_afterStop {s : State} {f : List Byte} (halted : s.stopped = true) (built : s.txInflight = .built f) : ∃ n,
    exec .sendGate s = .next { s with freeCount := n } ∨
    (gateOpen s = true ∧ exec .sendGate s = .next { s with freeCount := n, txInflight := .passed f }) ∨
    (gateOpen s = false ∧ exec .sendGate s = .next { s with freeCount := n, txInflight := .none, events := s.events ++ [.txGated] }) := by
  refine ⟨s.freeCount + 1, ?_⟩
  rw [exec_sendGate_stopped halted built]
  rcases Ops.perhaps_cases Ops.sendGate s with e | e <;> rw [e]
  · exact .inl rfl
  · rcases Ops.sendGate_cases { s with freeCount := s.freeCount + 1 } with ⟨g, same, gate, e⟩ | ⟨_, _, gate, e⟩ | ⟨none, _⟩
    · rw [e]
      cases built.symm.trans same
      exact .inr (.inl ⟨gate, rfl⟩)
    · rw [e]
      exact .inr (.inr ⟨gate, rfl⟩)
    · exact absurd built (none f)

/-- The wire's answer is the environment's next one, which is used up, or a free one where there is none (20_memory.md R45; log 9). -/
theorem Ops.nextAnswer_cases (s : State) : ∃ a n, Ops.nextAnswer s = (a, { s with emitAnswers := s.emitAnswers.tail, freeCount := n }) ∧
    ∀ b, s.emitAnswers.head? = some b → a = b := by
  cases h : s.emitAnswers with
  | nil =>
    exact ⟨if Config.freeAccept s.freeCount then .accepted else .failed, s.freeCount + 1, by simp [Ops.nextAnswer, h, Ops.countFree], by simp⟩
  | cons b rest => exact ⟨b, s.freeCount, by simp [Ops.nextAnswer, h], by simp⟩

/-- The emit of a passed frame: the whole frame where the wire accepts it, else a proper part of it and the label (45_send_scheduler.md R168). -/
theorem Ops.sendEmit_passed {s : State} {f : List Byte} (passed : s.txInflight = .passed f) (notEmpty : f ≠ []) : ∃ n,
    (s.emitAnswers.head? ≠ some .failed ∧
      Ops.sendEmit s = { s with freeCount := n, txInflight := .none, emitAnswers := s.emitAnswers.tail, txLine := s.txLine ++ [.frame f] }) ∨
    (s.emitAnswers.head? ≠ some .accepted ∧ ∃ b, b <+: f ∧ b.length < f.length ∧
      Ops.sendEmit s = { s with freeCount := n, txInflight := .none, emitAnswers := s.emitAnswers.tail,
                                txLine := s.txLine ++ [.partialFrame b], events := s.events ++ [.transportWriteErr] }) := by
  obtain ⟨a, n, answered, next⟩ := Ops.nextAnswer_cases s
  cases a with
  | accepted =>
    refine ⟨n, .inl ⟨fun h => (nomatch next _ h), ?_⟩⟩
    simp [Ops.sendEmit, passed, answered]
  | failed =>
    refine ⟨n + 1, .inr ⟨fun h => (nomatch next _ h), Ops.keptPart f n, List.take_prefix _ f, Ops.keptPart_lt f n notEmpty, ?_⟩⟩
    simp [Ops.sendEmit, passed, answered, Ops.raise, Ops.countFree]

/-- The emit of a passed frame in a stopped block (46_control_inputs.md R188). -/
theorem sendEmit_afterStop {s : State} {f : List Byte} (halted : s.stopped = true) (passed : s.txInflight = .passed f) (notEmpty : f ≠ []) :
    ∃ n, exec .sendEmit s = .next { s with freeCount := n } ∨
      (s.emitAnswers.head? ≠ some .failed ∧
        exec .sendEmit s = .next { s with freeCount := n, txInflight := .none, emitAnswers := s.emitAnswers.tail, txLine := s.txLine ++ [.frame f] }) ∨
      (s.emitAnswers.head? ≠ some .accepted ∧ ∃ b, b <+: f ∧ b.length < f.length ∧
        exec .sendEmit s = .next { s with freeCount := n, txInflight := .none, emitAnswers := s.emitAnswers.tail,
                                          txLine := s.txLine ++ [.partialFrame b], events := s.events ++ [.transportWriteErr] }) := by
  rw [exec_sendEmit_stopped halted passed]
  rcases Ops.perhaps_cases Ops.sendEmit s with e | e <;> rw [e]
  · exact ⟨s.freeCount + 1, .inl rfl⟩
  · obtain ⟨n, ⟨answer, e⟩ | ⟨answer, b, front, proper, e⟩⟩ := Ops.sendEmit_passed (s := { s with freeCount := s.freeCount + 1 }) passed notEmpty
    · rw [e]
      exact ⟨n, .inr (.inl ⟨answer, rfl⟩)⟩
    · rw [e]
      exact ⟨n, .inr (.inr ⟨answer, b, front, proper, rfl⟩)⟩

/-! An agent's turn. -/

theorem Agents.turn_stopped {s : State} {a : Engine} {t : Task} {ts : List Task} (halted : s.stopped = true)
    (plan : Agents.planOf a s = t :: ts) : Agents.turn a s = Agents.turnAfterStop a t ts s := by
  simp [Agents.turn, plan, halted]

/-- The turn of an agent with a step left in a stopped block. -/
theorem step_resume_stopped {s : State} {a : Engine} {t : Task} {ts : List Task} {rest : List Entry} (halted : s.stopped = true)
    (scheduled : s.agenda = .resume a :: rest) (plan : Agents.planOf a s = t :: ts) :
    step s = .next (Agents.turnAfterStop a t ts { s with agenda := rest }) := by
  have same : Agents.planOf a { s with agenda := rest } = t :: ts := by rw [← plan]; cases a <;> rfl
  rw [step_of_agenda scheduled, runEntry, Agents.turn_stopped (s := { s with agenda := rest }) halted same]

/-- Settles O56: the operations by their agent, the frame in flight by its two sub-steps, and the turns by the step that is left. -/
theorem stoppedBlockTakesNoStep : Obligations.StoppedBlockTakesNoStep := by
  refine ⟨fun _ => rfl, fun s halted => ⟨?_, ?_, ?_, ?_, ?_, ?_, ?_, ?_, ?_, ?_, ?_, ?_⟩⟩
  · exact fun rx fin now => congrArg _ (Ops.step_stopped rx fin now halted)
  · exact fun inputs now => congrArg _ (Ops.schedIter_stopped inputs now halted)
  · exact fun i t => exec_stopped halted
  · exact fun _ _ => next_whenRunning_stopped halted
  · exact fun _ => next_whenRunning_stopped halted
  · exact fun _ => next_whenRunning_stopped halted
  · exact fun _ _ => next_whenRunning_stopped halted
  · exact fun f => sendGate_afterStop halted
  · exact fun f => sendEmit_afterStop halted
  · intro a t ts rest scheduled plan notGate notEmit
    rw [step_resume_stopped halted scheduled plan]
    cases t with
    | gate => exact absurd rfl notGate
    | emit => exact absurd rfl notEmit
    | _ => rfl
  · intro a f ts rest scheduled plan built
    rw [step_resume_stopped halted scheduled plan, exec_sendGate_stopped (by simpa using halted) (by simpa using built)]
    rfl
  · intro a f ts rest scheduled plan passed
    rw [step_resume_stopped halted scheduled plan, exec_sendEmit_stopped (by simpa using halted) (by simpa using passed)]
    rfl

end Sys2Proof.Machine
end

section
/-! PROOF. The host's register port (10_state.md R33): which numbers are registers, the word that each register answers, and what a write does. -/

namespace Sys2Proof.Machine

/-! Which numbers are registers. -/

theorem Ops.plainWord_isSome (n : Nat) (s : State) : (Ops.plainWord n s).isSome = true ↔ n < 0x16 := by
  unfold Ops.plainWord
  split
  · simp; omega
  · split <;> simp_all; omega

theorem Ops.gpsWord_isSome (n : Nat) (g : Gps) : (Ops.gpsWord n g).isSome = true ↔ 0x20 ≤ n ∧ n ≤ 0x25 := by
  unfold Ops.gpsWord
  split <;> simp_all; omega

theorem Ops.batteryWord_isSome (n : Nat) (b : Battery) : (Ops.batteryWord n b).isSome = true ↔ 0x28 ≤ n ∧ n ≤ 0x2B := by
  unfold Ops.batteryWord
  split <;> simp_all; omega

theorem Ops.attitudeWord_isSome (n : Nat) (a : Attitude) : (Ops.attitudeWord n a).isSome = true ↔ 0x30 ≤ n ∧ n ≤ 0x32 := by
  unfold Ops.attitudeWord
  split <;> simp_all; omega

theorem Ops.linkStatWord_isSome (n : Nat) (l : LinkStat) : (Ops.linkStatWord n l).isSome = true ↔ 0x38 ≤ n ∧ n ≤ 0x3A := by
  unfold Ops.linkStatWord
  split <;> simp_all

theorem Ops.flightModeWord_isSome (n : Nat) (f : FlightMode) : (Ops.flightModeWord n f).isSome = true ↔ 0x3F ≤ n ∧ n ≤ 0x4E := by
  unfold Ops.flightModeWord
  split_ifs <;> simp <;> omega

theorem Ops.telemetryWord_isSome (n : Nat) (s : State) : (Ops.telemetryWord n s).isSome = true ↔
    (Ops.gpsWord n s.gps).isSome ∨ (Ops.batteryWord n s.bat).isSome ∨ (Ops.attitudeWord n s.att).isSome ∨
      (Ops.linkStatWord n s.linkstat).isSome ∨ (Ops.flightModeWord n s.fm).isSome := by
  unfold Ops.telemetryWord
  split <;> simp_all [Option.isSome_iff_exists]

theorem mem_registerNumbers (n : Nat) : n ∈ registerNumbers ↔
    n < 0x16 ∨ (0x20 ≤ n ∧ n ≤ 0x25) ∨ (0x28 ≤ n ∧ n ≤ 0x2B) ∨ (0x30 ≤ n ∧ n ≤ 0x32) ∨ (0x38 ≤ n ∧ n ≤ 0x3A) ∨ (0x3F ≤ n ∧ n ≤ 0x4E) := by
  have flightMode : n ∈ (List.range 16).map (0x3F + ·) ↔ 0x3F ≤ n ∧ n ≤ 0x4E := by
    rw [List.mem_map]
    constructor
    · rintro ⟨k, hk, rfl⟩
      have := List.mem_range.mp hk
      omega
    · exact fun h => ⟨n - 0x3F, List.mem_range.mpr (by omega), by omega⟩
  simp only [registerNumbers, List.mem_append, flightMode, List.mem_range, List.mem_cons, List.not_mem_nil, or_false]
  omega

/-- The port answers a word just for the numbers that R33 lists. -/
theorem Ops.regRead_isSome (n : Nat) (s : State) : (Ops.regRead n s).isSome = true ↔ n ∈ registerNumbers := by
  have either : (Ops.regRead n s).isSome = true ↔ (Ops.plainWord n s).isSome ∨ (Ops.telemetryWord n s).isSome := by
    unfold Ops.regRead
    split <;> simp_all
  simp only [either, mem_registerNumbers, Ops.telemetryWord_isSome, Ops.plainWord_isSome, Ops.gpsWord_isSome, Ops.batteryWord_isSome,
    Ops.attitudeWord_isSome, Ops.linkStatWord_isSome, Ops.flightModeWord_isSome]

theorem Ops.regRead_eq_none {n : Nat} (s : State) (unlisted : n ∉ registerNumbers) : Ops.regRead n s = none := by
  rw [← Ops.regRead_isSome n s] at unlisted
  simpa using unlisted

/-- The registers of a group are read in the order in which R33 lists them, none left out. -/
theorem Ops.groupRead_numbers (g : Group) (s : State) : (Ops.groupRead g s).map Prod.fst = groupNumbers g := by
  cases g <;> rfl

/-! The words of the registers. -/

theorem Ops.regRead_channel (i : Fin 16) (s : State) : Ops.regRead i s = some s.ch[i] := by
  simp [Ops.regRead, Ops.plainWord, i.isLt]

theorem Ops.regRead_linkStat (k : Fin 3) (s : State) : Ops.regRead (0x38 + k) s = some (Ops.byteWord s.linkstat.bytes.toList k) := by
  fin_cases k <;> rfl

theorem Ops.regRead_flightMode (k : Fin 15) (s : State) : Ops.regRead (0x40 + k) s = some (Ops.byteWord s.fm.bytes k) := by
  fin_cases k <;> rfl

theorem getElem_bitAt (b : Bool) (n i : Nat) (h : i < 32) : (bitAt b n)[i] = (b && decide (n = i)) := by
  cases b
  · simp [bitAt]
  · simp only [bitAt, if_true, ← BitVec.twoPow_eq, BitVec.getElem_twoPow, Bool.true_and, eq_comm]

/-- The low eight bits of `STATUS` (R33). -/
theorem statusWord_bits (s : State) :
    (statusWord s).getLsbD 0 = s.linkUp ∧ (statusWord s).getLsbD 1 = s.gps.valid ∧ (statusWord s).getLsbD 2 = s.bat.valid ∧
    (statusWord s).getLsbD 3 = s.att.valid ∧ (statusWord s).getLsbD 4 = s.linkstat.valid ∧ (statusWord s).getLsbD 5 = s.fm.valid ∧
    (statusWord s).getLsbD 6 = (s.txInflight != .none) ∧ (statusWord s).getLsbD 7 = s.stopped := by
  simp [statusWord, getElem_bitAt]

/-- The bits of `STATUS` above them hold `rx_len` (R33). -/
theorem statusWord_rxLen (s : State) (bounded : s.rxLen ≤ 64) : (statusWord s).toNat / 256 = s.rxLen := by
  have low : ∀ b : Bool, ∀ n < 8, bitAt b n >>> 8 = 0#32 := by decide
  have high : ((BitVec.ofNat 7 s.rxLen).setWidth 32 <<< 8) >>> 8 = BitVec.ofNat 32 s.rxLen := by
    apply BitVec.eq_of_toNat_eq
    simp
    omega
  have shifted : statusWord s >>> 8 = BitVec.ofNat 32 s.rxLen := by
    simp [statusWord, BitVec.ushiftRight_or_distrib, low, high]
  calc (statusWord s).toNat / 256 = (statusWord s >>> 8).toNat := by rw [BitVec.toNat_ushiftRight, Nat.shiftRight_eq_div_pow]
    _ = s.rxLen := by rw [shifted, BitVec.toNat_ofNat]; omega

theorem ctrlWord_bits (s : State) :
    (ctrlWord s).getLsbD 0 = s.ignoreTel ∧ (ctrlWord s).getLsbD 1 = (s.mode == .manual) ∧ (ctrlWord s).toNat < 4 := by
  unfold ctrlWord
  generalize s.mode = m
  cases s.ignoreTel <;> cases m <;> decide

/-- Byte `j` of a big-endian word, counted from its low end. -/
theorem be32_byte (b3 b2 b1 b0 : Byte) (j : Fin 4) : (be32 b3 b2 b1 b0).extractLsb' (8 * j) 8 = [b0, b1, b2, b3].getD j 0 := by
  ext i hi
  rw [BitVec.getElem_extractLsb']
  change BitVec.getLsbD (w := 8 + 8 + 8 + 8) (b3 ++ b2 ++ b1 ++ b0) (8 * j + i) = _
  simp only [BitVec.getLsbD_append, Nat.sub_sub]
  fin_cases j <;> simp <;> grind

/-- Byte `j` of word `k` of a byte register is byte `4k + j` of the register (R33). -/
theorem Ops.byteWord_byte (bs : List Byte) (k : Nat) (j : Fin 4) : (Ops.byteWord bs k).extractLsb' (8 * j) 8 = bs.getD (4 * k + j) 0 := by
  rw [Ops.byteWord, be32_byte]
  fin_cases j <;> rfl

/-! Reads as steps (20_memory.md R51, R53, R54). -/

/-- A word answered is the word of the state in which the read is scheduled. -/
theorem step_regRead {s : State} {n : Nat} {rest : List Entry} {w : BitVec 32} (scheduled : s.agenda = .regRead n :: rest)
    (word : Ops.regRead n s = some w) : step s = .next { s with agenda := rest, result := .word w } := by
  have same : Ops.regRead n { s with agenda := rest } = some w := word
  simp only [step_of_agenda scheduled, runEntry, Ops.busRead, same]
  rfl

theorem step_regRead_unlisted {s : State} {n : Nat} {rest : List Entry} (scheduled : s.agenda = .regRead n :: rest)
    (unlisted : n ∉ registerNumbers) : step s = .fault (.noSuchRegister n) := by
  simp only [step_of_agenda scheduled, runEntry, Ops.busRead, Ops.regRead_eq_none _ unlisted]

/-- A group read word by word gives the words that single reads would answer, all in one state (D34; log 40). -/
theorem step_groupRead {s : State} {g : Group} {rest : List Entry} (scheduled : s.agenda = .groupRead g :: rest) :
    ∃ ws, step s = .next { s with agenda := rest, result := .words ws } ∧ ws.map Prod.fst = groupNumbers g ∧
      ∀ n w, (n, w) ∈ ws → step { s with agenda := .regRead n :: rest } = .next { s with agenda := rest, result := .word w } := by
  refine ⟨Ops.groupRead g { s with agenda := rest }, by rw [step_of_agenda scheduled]; rfl, Ops.groupRead_numbers g _, ?_⟩
  intro n w answered
  obtain ⟨_, word⟩ := (Ops.mem_groupRead g _ n w).mp answered
  exact step_regRead (s := { s with agenda := .regRead n :: rest }) rfl word

/-- Settles O59: the record and the groups, then the registers in the order of their numbers, then the numbers that R33 does not list. -/
theorem registerReads : Obligations.RegisterReads := by
  refine ⟨?_, fun s g rest => step_groupRead, ?_⟩
  · intro s rest scheduled
    rw [step_of_agenda scheduled]
    rfl
  intro s n rest scheduled
  refine ⟨?_, ?_, ?_, ?_, ?_, ?_, ?_, ?_, ?_, ?_, ?_, ?_, ?_, ?_, ?_, step_regRead_unlisted scheduled⟩
  · rintro i rfl
    exact step_regRead scheduled (Ops.regRead_channel i s)
  · rintro rfl bounded
    obtain ⟨b0, b1, b2, b3, b4, b5, b6, b7⟩ := statusWord_bits s
    exact ⟨_, step_regRead scheduled rfl, b0, b1, b2, b3, b4, b5, b6, b7, statusWord_rxLen s bounded⟩
  · rintro rfl
    exact step_regRead scheduled rfl
  · rintro rfl
    exact step_regRead scheduled rfl
  · rintro rfl
    exact step_regRead scheduled rfl
  · rintro rfl
    exact ⟨_, step_regRead scheduled rfl, ctrlWord_bits s⟩
  · rintro rfl
    exact step_regRead scheduled rfl
  · rintro rfl
    exact step_regRead scheduled rfl
  · rintro rfl
    exact step_regRead scheduled rfl
  · intro gps
    simp only [List.mem_cons, List.not_mem_nil, or_false] at gps
    rcases gps with rfl | rfl | rfl | rfl <;> exact ⟨_, step_regRead scheduled rfl, by simp; omega⟩
  · intro battery
    simp only [List.mem_cons, List.not_mem_nil, or_false] at battery
    rcases battery with rfl | rfl | rfl | rfl <;> exact ⟨_, step_regRead scheduled rfl, by simp; omega⟩
  · intro attitude
    simp only [List.mem_cons, List.not_mem_nil, or_false] at attitude
    rcases attitude with rfl | rfl | rfl <;> exact ⟨_, step_regRead scheduled rfl, by simp [BitVec.toInt_signExtend_of_le]⟩
  · rintro k rfl
    exact ⟨_, step_regRead scheduled (Ops.regRead_linkStat k s), Ops.byteWord_byte _ k⟩
  · rintro rfl
    exact ⟨_, step_regRead scheduled rfl, BitVec.toNat_ofNat _ _⟩
  · rintro k rfl
    exact ⟨_, step_regRead scheduled (Ops.regRead_flightMode k s), Ops.byteWord_byte _ k⟩

/-! Writes. -/

/-- Whether R33 gives a register write access. -/
def writable (n : Nat) : Prop := n < 16 ∨ n = 0x14 ∨ n = 0x15

theorem Ops.busWrite_channel {s : State} (running : s.stopped = false) (i : Fin 16) (v : BitVec 32) (now : Time) :
    Ops.busWrite i v now s = .next { s with ch := s.ch.set i v } := by
  have index : channelIndex ((i : Nat) + 1) = some i := by simp [channelIndex]
  simp [Ops.busWrite, Ops.chSet, index, Ops.whenRunning_run _ _ running]

theorem Ops.busWrite_ctrl {s : State} (running : s.stopped = false) (v : BitVec 32) (now : Time) : Ops.busWrite 0x14 v now s =
    .next { s with ignoreTel := v.getLsbD 0, mode := if v.getLsbD 1 then .manual else .joystick } :=
  congrArg Host.Outcome.next (Ops.whenRunning_run s _ running)

theorem Ops.busWrite_cmd {s : State} (running : s.stopped = false) (v : BitVec 32) (now : Time) :
    Ops.busWrite 0x15 v now s = .next (Ops.writeCmd v now s) :=
  congrArg Host.Outcome.next (Ops.whenRunning_run s _ running)

theorem Ops.busWrite_stopped {s : State} (halted : s.stopped = true) {n : Nat} (access : writable n) (v : BitVec 32) (now : Time) :
    Ops.busWrite n v now s = .next s := by
  rcases access with channel | rfl | rfl
  · rw [Ops.busWrite, if_pos channel, Ops.whenRunning_stopped _ _ halted]
  · exact congrArg Host.Outcome.next (Ops.whenRunning_stopped s _ halted)
  · exact congrArg Host.Outcome.next (Ops.whenRunning_stopped s _ halted)

/-- A register without write access faults under its own name, and so does a number that is no register's (log 27). -/
theorem Ops.busWrite_fault {n : Nat} (fixed : ¬ writable n) (v : BitVec 32) (now : Time) (s : State) :
    Ops.busWrite n v now s = .fault (if n ∈ registerNumbers then .readOnlyRegister n else .noSuchRegister n) := by
  simp only [writable, not_or] at fixed
  obtain ⟨channel, ctrl, cmd⟩ := fixed
  rw [Ops.busWrite, if_neg channel, if_neg ctrl, if_neg cmd]
  simp only [Ops.isRegister, Ops.regRead_isSome]
  split <;> rfl

theorem mem_registerNumbers_of_writable {n : Nat} (access : writable n) : n ∈ registerNumbers := by
  rw [mem_registerNumbers]
  unfold writable at access
  omega

/-- Settles O60: by the register written, in a running block and in a stopped one. -/
theorem registerWrites : Obligations.RegisterWrites := by
  intro s n v now rest scheduled
  rw [step_of_agenda scheduled, runEntry]
  refine ⟨?_, ?_, ?_, ?_, ?_, ?_⟩
  · rintro i running rfl
    exact Ops.busWrite_channel (s := { s with agenda := rest }) running i v now
  · rintro running rfl
    exact Ops.busWrite_ctrl (s := { s with agenda := rest }) running v now
  · rintro running rfl
    rw [Ops.busWrite_cmd (s := { s with agenda := rest }) running]
    refine ⟨fun stop => ?_, fun send keep => ?_, fun idle keep => ?_⟩
    · rw [Ops.writeCmd, if_pos stop, Ops.stop]
    · rw [Ops.writeCmd, if_neg (ne_true_of_eq_false keep), if_pos send, Ops.requestSend_eq now { s with agenda := rest } running]
    · rw [Ops.writeCmd, if_neg (ne_true_of_eq_false keep), if_neg (ne_true_of_eq_false idle)]
  · intro halted access
    exact Ops.busWrite_stopped (s := { s with agenda := rest }) halted access v now
  · intro listed fixed
    rw [Ops.busWrite_fault fixed, if_pos listed]
  · intro unlisted
    rw [Ops.busWrite_fault (mt mem_registerNumbers_of_writable unlisted), if_neg unlisted]

end Sys2Proof.Machine
end

section
/-! PROOF. An atomic step neither reads nor writes what the environment and the agents are about to do: the agenda, the plans and the stopped bit. -/

namespace Sys2Proof.Machine

/-- What the environment and the agents are about to do, and whether they may. -/
structure Schedule where
  agenda : List Entry
  rxPlan : List Task
  txPlan : List Task
  stopped : Bool

/-- The state with another schedule. -/
def State.withSchedule (c : Schedule) (s : State) : State :=
  { s with agenda := c.agenda, rxPlan := c.rxPlan, txPlan := c.txPlan, stopped := c.stopped }

/-- The schedule of a state. -/
def State.schedule (s : State) : Schedule := ⟨s.agenda, s.rxPlan, s.txPlan, s.stopped⟩

@[simp] theorem State.withSchedule_rxBuf (c : Schedule) (s : State) : (s.withSchedule c).rxBuf = s.rxBuf := rfl
@[simp] theorem State.withSchedule_mode (c : Schedule) (s : State) : (s.withSchedule c).mode = s.mode := rfl
@[simp] theorem State.withSchedule_txInflight (c : Schedule) (s : State) : (s.withSchedule c).txInflight = s.txInflight := rfl
@[simp] theorem State.withSchedule_emitAnswers (c : Schedule) (s : State) : (s.withSchedule c).emitAnswers = s.emitAnswers := rfl

theorem Ops.rxb_withSchedule (b : Byte) (t : Time) (c : Schedule) (s : State) :
    Ops.rxb b t (s.withSchedule c) = (Ops.rxb b t s).withSchedule c := by
  rcases Ops.rxb_cases b t s with ⟨full, e⟩ | ⟨room, e⟩ <;> rw [e]
  · exact (if_pos full).trans rfl
  · exact (if_neg room).trans rfl

theorem Ops.typedFrame_withSchedule (k : Kind) (p : List Byte) (now : Time) (c : Schedule) (s : State) :
    Ops.typedFrame k p now (s.withSchedule c) = (Ops.typedFrame k p now s).withSchedule c := by
  unfold Ops.typedFrame
  split
  · rfl
  · cases k with
    | rc =>
      simp only [Ops.acceptRc_eq]
      rfl
    | gps | batt | linkstat | att | fmode => rfl

theorem Ops.dispatch_withSchedule (addr ty : Byte) (p : List Byte) (now : Time) (c : Schedule) (s : State) :
    Ops.dispatch addr ty p now (s.withSchedule c) = (Ops.dispatch addr ty p now s).withSchedule c := by
  unfold Ops.dispatch Ops.dispatchBy
  split
  · rfl
  · split
    · exact Ops.typedFrame_withSchedule _ p now c s
    · rfl

theorem Ops.crcOk_withSchedule (L : Nat) (now : Time) (c : Schedule) (s : State) :
    Ops.crcOk L now (s.withSchedule c) = (Ops.crcOk L now s).withSchedule c :=
  congrArg (Ops.shift (L + 2)) (Ops.dispatch_withSchedule _ _ _ now c (Ops.raise .frameOk s))

theorem Ops.consumePass_withSchedule (now : Time) (c : Schedule) (s : State) :
    Ops.consumePass now (s.withSchedule c) = ((Ops.consumePass now s).1.withSchedule c, (Ops.consumePass now s).2) := by
  simp only [Ops.consumePass, State.withSchedule_rxBuf]
  cases frameCheck s.rxBuf with
  | crcOk L => exact congrArg (·, true) (Ops.crcOk_withSchedule L now c s)
  | waitHdr | resync | waitBody | crcBad => rfl

theorem Ops.ldn_withSchedule (now : Time) (c : Schedule) (s : State) : Ops.ldn now (s.withSchedule c) = (Ops.ldn now s).withSchedule c := by
  unfold Ops.ldn
  rw [apply_ite (State.withSchedule c)]
  rfl

theorem Ops.chSet_withSchedule (k : Int) (us : Chan) (c : Schedule) (s : State) :
    Ops.chSet k us (s.withSchedule c) = (Ops.chSet k us s).withSchedule c := by
  unfold Ops.chSet
  split <;> rfl

theorem Ops.joyAxis_withSchedule (axis : Byte) (a : BitVec 16) (c : Schedule) (s : State) :
    Ops.joyAxis axis a (s.withSchedule c) = (Ops.joyAxis axis a s).withSchedule c := by
  simp only [Ops.joyAxis, State.withSchedule_mode]
  split
  · exact Ops.chSet_withSchedule _ _ c s
  · rfl

theorem Ops.sendGate_withSchedule (c : Schedule) (s : State) : Ops.sendGate (s.withSchedule c) = (Ops.sendGate s).withSchedule c := by
  simp only [Ops.sendGate, State.withSchedule_txInflight]
  split
  · rw [apply_ite (State.withSchedule c)]
    rfl
  · rfl

theorem Ops.nextAnswer_withSchedule (c : Schedule) (s : State) :
    Ops.nextAnswer (s.withSchedule c) = ((Ops.nextAnswer s).1, (Ops.nextAnswer s).2.withSchedule c) := by
  simp only [Ops.nextAnswer, State.withSchedule_emitAnswers]
  split <;> rfl

theorem Ops.sendEmit_withSchedule (c : Schedule) (s : State) : Ops.sendEmit (s.withSchedule c) = (Ops.sendEmit s).withSchedule c := by
  simp only [Ops.sendEmit, State.withSchedule_txInflight, Ops.nextAnswer_withSchedule]
  rcases Ops.nextAnswer s with ⟨a, s'⟩
  cases s.txInflight with
  | passed f => cases a <;> rfl
  | none | built f => rfl

/-- One pass of CONSUME as an atomic step: it stands in front of the remaining steps again if the loop goes on (42_link_engine.md R117). -/
theorem Agents.runTask_consume (now : Time) (s : State) : Agents.runTask (.consume now) s =
    ((Ops.consumePass now s).1, if (Ops.consumePass now s).2 then [.consume now] else []) := by
  simp only [Agents.runTask]
  rcases Ops.consumePass now s with ⟨s', goesOn⟩
  cases goesOn <;> rfl

/-- An atomic step does not depend on the schedule and leaves it as it was. -/
theorem Agents.runTask_withSchedule (t : Task) (c : Schedule) (s : State) :
    Agents.runTask t (s.withSchedule c) = (Agents.runTask t s).map (State.withSchedule c) id := by
  cases t with
  | rxb b t => exact congrArg (·, []) (Ops.rxb_withSchedule b t c s)
  | consume now => rw [runTask_consume, runTask_consume, Ops.consumePass_withSchedule]; rfl
  | tmoTest now | tmoShift now | tick now =>
    simp only [Agents.runTask]
    rw [apply_ite (Prod.map (State.withSchedule c) id)]
    rfl
  | ldn now => exact congrArg (·, []) (Ops.ldn_withSchedule now c s)
  | control i now =>
    cases i with
    | chSet k us => exact congrArg (·, []) (Ops.chSet_withSchedule k us c s)
    | joyAxis axis a => exact congrArg (·, []) (Ops.joyAxis_withSchedule axis a c s)
    | setMode m | forceSend => rfl
  | gate => exact congrArg (·, []) (Ops.sendGate_withSchedule c s)
  | emit => exact congrArg (·, []) (Ops.sendEmit_withSchedule c s)
  | readErr | stamp now | build => rfl

theorem Agents.runTask_schedule (t : Task) (s : State) : (Agents.runTask t s).1.schedule = s.schedule :=
  congrArg (fun r => r.1.schedule) (Agents.runTask_withSchedule t s.schedule s)

end Sys2Proof.Machine
end

section
/-! PROOF. The atomic steps of an operation, taken one after another with no step of another agent between them, are the operation (20_memory.md R52):
every pass that goes on removes a byte, so the loops come to their end. -/

namespace Sys2Proof.Machine

/-- Taking the steps of a plan, and those that they put in front of the rest, until none is left leads from one state to another. -/
inductive Agents.Takes : List Task → State → State → Prop
  | done (s : State) : Takes [] s s
  | step {t : Task} {ts : List Task} {s u : State} (rest : Takes ((Agents.runTask t s).2 ++ ts) (Agents.runTask t s).1 u) : Takes (t :: ts) s u

theorem Agents.Takes.append {ts rs : List Task} {s u v : State} (first : Takes ts s u) (second : Takes rs u v) : Takes (ts ++ rs) s v := by
  induction first with
  | done => exact second
  | step _ ih => exact .step (by rw [List.append_eq, ← List.append_assoc]; exact ih second)

theorem Agents.Takes.deterministic {ts : List Task} {s u v : State} (h : Takes ts s u) (g : Takes ts s v) : u = v := by
  induction h with
  | done => cases g; rfl
  | step _ ih => cases g with | step rest => exact ih rest

theorem Agents.Takes.withSchedule {ts : List Task} {s u : State} (h : Takes ts s u) (c : Schedule) :
    Takes ts (s.withSchedule c) (u.withSchedule c) := by
  induction h with
  | done s => exact .done _
  | step _ ih => exact .step (by rw [Agents.runTask_withSchedule]; exact ih)

theorem Agents.Takes.schedule {ts : List Task} {s u : State} (h : Takes ts s u) : u.schedule = s.schedule := by
  induction h with
  | done => rfl
  | step _ ih => rw [ih, Agents.runTask_schedule]

/-- Enough turns take a plan to its end, and more change nothing. -/
theorem Agents.Takes.runTasks {ts : List Task} {s u : State} (h : Takes ts s u) : ∃ n, ∀ m, n ≤ m → Agents.runTasks m ts s = u := by
  induction h with
  | done s => exact ⟨0, fun m _ => by cases m <;> rfl⟩
  | step _ ih =>
    obtain ⟨n, enough⟩ := ih
    refine ⟨n + 1, fun m hm => ?_⟩
    cases m with
    | zero => omega
    | succ m => exact enough m (by omega)

/-! The steps that follow from one step, taken to their end, are its operation whole (`Agents.wholeTask`). -/

theorem Agents.Takes.single {t : Task} {s : State} (last : (Agents.runTask t s).2 = []) : Takes [t] s (Agents.runTask t s).1 :=
  .step (by rw [last]; exact .done _)

theorem Agents.takes_consume (now : Time) (s : State) : Takes [.consume now] s (Ops.consume now s) := by
  induction bytes : s.rxLen using Nat.strong_induction_on generalizing s with
  | _ n ih =>
    subst bytes
    refine .step ?_
    rw [Agents.runTask_consume, Ops.consume_unfold]
    split
    · exact ih _ (Ops.consumePass_shorter now s ‹_›) _ rfl
    · exact .done _

/-- The rounds of the flush (42_link_engine.md R123), each a `shift(1)` and the passes of CONSUME. -/
theorem Agents.takes_tmoShift (now : Time) (s : State) : Takes [.tmoShift now] s (Ops.flushLoop s.rxLen now s) := by
  induction bytes : s.rxLen using Nat.strong_induction_on generalizing s with
  | _ n ih =>
    subst bytes
    refine .step ?_
    rw [Agents.runTask, Ops.flush_unfold]
    split
    · have shorter : (Ops.consume now (Ops.shift 1 s)).rxLen < s.rxLen := by
        have consumed := Ops.consume_rxLen_le now (Ops.shift 1 s)
        have shifted : (Ops.shift 1 s).rxLen = s.rxLen - 1 := List.length_drop
        omega
      exact (Agents.takes_consume now (Ops.shift 1 s)).append (ih _ shorter _ rfl)
    · exact .done _

theorem Agents.takes_tmoTest (now : Time) (s : State) : Takes [.tmoTest now] s (Ops.tmo now s) := by
  refine .step ?_
  rw [Agents.runTask, Ops.tmo]
  split
  · exact Agents.takes_tmoShift now (Ops.raise .truncated s)
  · exact .done _

/-- The stamp and then SEND_BUILD, SEND_GATE and SEND_EMIT are SEND (45_send_scheduler.md R170). -/
theorem Agents.takes_afterStamp (now : Time) (s : State) : Takes [.build, .gate, .emit] (Ops.stamp now s) (Ops.send now s) :=
  .step (.step (.step (.done _)))

theorem Agents.takes_tick (now : Time) (s : State) : Takes [.tick now] s (Ops.tick now s) := by
  refine .step ?_
  rw [Agents.runTask, Ops.tick]
  split
  · exact Agents.takes_afterStamp now s
  · exact .done _

theorem Agents.takes_control (c : Control) (now : Time) (s : State) : Takes [.control c now] s (Ops.applyControl now c s) := by
  cases c with
  | forceSend => exact .step (Agents.takes_afterStamp now s)
  | chSet | setMode | joyAxis => exact .single rfl

theorem Agents.takes_wholeTask (t : Task) (s : State) : Takes [t] s (Agents.wholeTask s t) := by
  cases t with
  | consume now => exact Agents.takes_consume now s
  | tmoTest now => exact Agents.takes_tmoTest now s
  | tmoShift now => exact Agents.takes_tmoShift now s
  | control c now => exact Agents.takes_control c now s
  | tick now => exact Agents.takes_tick now s
  | rxb | readErr | ldn | stamp | build | gate | emit => exact .single rfl

/-- The steps of a plan, taken one by one, do what the plan does whole. -/
theorem Agents.takes_whole (ts : List Task) (s : State) : Takes ts s (ts.foldl Agents.wholeTask s) := by
  induction ts generalizing s with
  | nil => exact .done s
  | cons t ts ih => exact (Agents.takes_wholeTask t s).append (ih _)

/-- An agent's operation in a running block has its effect. -/
theorem next_whenRunning {s : State} (running : s.running) (s' : State) : (.next (Ops.whenRunning s s') : Answer) = .next s' :=
  congrArg _ (Ops.whenRunning_run s s' running)

/-- A composite operation whole is its atomic steps, each with what follows from it. -/
theorem exec_of_stepsOf {i : Instr} {a : Engine} {ts : List Task} {s : State} (steps : Agents.stepsOf i = some (a, ts)) (running : s.running) :
    exec i s = .next (ts.foldl Agents.wholeTask s) := by
  have whole := next_whenRunning running
  cases i with
  | consume now | tmo now | tick now | send now | forceSend now | sendChannels now =>
    cases steps
    exact whole _
  | step rx fin now =>
    cases steps
    simp only [List.foldl_append, List.foldl_map]
    change Host.Outcome.next (Ops.step rx fin now s) = _
    rw [Ops.step, if_neg (ne_true_of_eq_false running), Ops.readPhase]
    cases fin <;> rfl
  | schedIter inputs now =>
    cases steps
    simp only [List.foldl_append, List.foldl_map]
    exact congrArg _ (if_neg (ne_true_of_eq_false running))
  | setChannels pairs =>
    cases steps
    rw [List.foldl_map]
    exact whole _
  | _ => simp [Agents.stepsOf] at steps

/-- The atomic steps of a composite operation, taken to their end, do what the operation does whole. -/
theorem takes_exec {i : Instr} {a : Engine} {ts : List Task} {s : State} (steps : Agents.stepsOf i = some (a, ts)) (running : s.running) :
    ∃ t, exec i s = .next t ∧ Agents.Takes ts s t :=
  ⟨_, exec_of_stepsOf steps running, Agents.takes_whole ts s⟩

end Sys2Proof.Machine
end

section
/-! PROOF. The turns of an agent in the machine: an operation started and taken turn by turn, what an agent finishes before it begins another, and what
each step is (20_memory.md R52, R54). -/

namespace Sys2Proof.Machine

theorem Agents.turn_running {s : State} {a : Engine} {t : Task} {ts : List Task} (running : s.running) (plan : Agents.planOf a s = t :: ts) :
    Agents.turn a s = Agents.setPlan a ((Agents.runTask t s).2 ++ ts) (Agents.runTask t s).1 := by
  unfold Agents.turn
  rw [plan]
  exact if_neg (ne_true_of_eq_false running)

theorem Agents.turn_idle {s : State} {a : Engine} (idle : Agents.planOf a s = []) : Agents.turn a s = s := by
  unfold Agents.turn
  rw [idle]

theorem Agents.planOf_withAgenda (a : Engine) (g : List Entry) (s : State) : Agents.planOf a { s with agenda := g } = Agents.planOf a s := by
  cases a <;> rfl

/-- The turn of an agent with a step left in a running block. -/
theorem step_resume {s : State} {a : Engine} {t : Task} {ts : List Task} {rest : List Entry} (running : s.running)
    (scheduled : s.agenda = .resume a :: rest) (plan : Agents.planOf a s = t :: ts) :
    step s = .next (Agents.setPlan a ((Agents.runTask t { s with agenda := rest }).2 ++ ts) (Agents.runTask t { s with agenda := rest }).1) := by
  rw [step_of_agenda scheduled]
  exact congrArg _ (Agents.turn_running (s := { s with agenda := rest }) running (by rw [Agents.planOf_withAgenda, plan]))

theorem step_resume_idle {s : State} {a : Engine} {rest : List Entry} (scheduled : s.agenda = .resume a :: rest)
    (idle : Agents.planOf a s = []) : step s = .next { s with agenda := rest } := by
  rw [step_of_agenda scheduled]
  exact congrArg _ (Agents.turn_idle (by rw [Agents.planOf_withAgenda, idle]))

/-- The schedule in which an agent has these steps to take and the environment has this agenda. -/
def Schedule.put (a : Engine) (ts : List Task) (g : List Entry) (c : Schedule) : Schedule :=
  match a with
  | .rx => { c with rxPlan := ts, agenda := g }
  | .tx => { c with txPlan := ts, agenda := g }

theorem Agents.setPlan_withAgenda (a : Engine) (ts : List Task) (g : List Entry) (s : State) :
    { Agents.setPlan a ts s with agenda := g } = s.withSchedule (s.schedule.put a ts g) := by
  cases a <;> rfl

theorem Agents.planOf_put (a : Engine) (ts : List Task) (g : List Entry) (c : Schedule) (s : State) :
    Agents.planOf a (s.withSchedule (c.put a ts g)) = ts := by
  cases a <;> rfl

theorem Agents.setPlan_put (a : Engine) (ts rs : List Task) (g : List Entry) (c : Schedule) (s : State) :
    Agents.setPlan a rs (s.withSchedule (c.put a ts g)) = s.withSchedule (c.put a rs g) := by
  cases a <;> rfl

/-- A turn as a change of the schedule, beside what the atomic step does. -/
theorem step_resume_put {a : Engine} {t : Task} {ts : List Task} {g : List Entry} {c : Schedule} (running : c.stopped = false) (s : State) :
    step (s.withSchedule (c.put a (t :: ts) (.resume a :: g))) =
      .next ((Agents.runTask t s).1.withSchedule (c.put a ((Agents.runTask t s).2 ++ ts) g)) := by
  have taken : ∀ rs, { s.withSchedule (c.put a rs (.resume a :: g)) with agenda := g } = s.withSchedule (c.put a rs g) := by
    intro rs
    cases a <;> rfl
  have runs : (s.withSchedule (c.put a (t :: ts) (.resume a :: g))).running := by cases a <;> exact running
  rw [step_resume runs (by cases a <;> rfl) (Agents.planOf_put a (t :: ts) _ c s), taken, Agents.runTask_withSchedule]
  exact congrArg _ (Agents.setPlan_put a (t :: ts) _ g c _)

/-- An agent with no step left lets any number of turns pass. -/
theorem stepN_resume_idle {a : Engine} {s : State} (idle : Agents.planOf a s = []) (m : Nat) (rest : List Entry) :
    stepN m { s with agenda := List.replicate m (.resume a) ++ rest } = .next { s with agenda := rest } := by
  induction m with
  | zero => rfl
  | succ m ih =>
    rw [stepN, step_resume_idle (a := a) (rest := List.replicate m (.resume a) ++ rest) rfl (by rw [Agents.planOf_withAgenda, idle])]
    exact ih

/-- Enough turns of an agent with no step of another between them take its plan to its end. -/
theorem Agents.Takes.stepN {ts : List Task} {s u : State} (h : Takes ts s u) (a : Engine) {c : Schedule} (running : c.stopped = false) :
    ∃ n, ∀ m rest, n ≤ m → stepN m (s.withSchedule (c.put a ts (List.replicate m (.resume a) ++ rest))) =
      .next (u.withSchedule (c.put a [] rest)) := by
  induction h with
  | done s =>
    refine ⟨0, fun m rest _ => ?_⟩
    have turns := stepN_resume_idle (Agents.planOf_put a [] [] c s) m rest
    cases a <;> exact turns
  | step _ ih =>
    obtain ⟨n, enough⟩ := ih
    refine ⟨n + 1, fun m rest hm => ?_⟩
    cases m with
    | zero => omega
    | succ m =>
      rw [Machine.stepN, List.replicate_succ, List.cons_append, step_resume_put running]
      exact enough m rest (by omega)

/-! The beginning of an operation. -/

theorem receive_of_decode {e : Encoded} {i : Instr} (decoded : decode e = .ok i) (go : Instr → State → Answer) (s : State) :
    receive go e s = go i (Agents.settle i s) := by
  simp [receive, fetch, decoded]

/-- The steps of a composite operation are its agent's (30_encoding.md R78); a line that the ingress rejects has none and no agent. -/
theorem engine_of_stepsOf {i : Instr} {a b : Engine} {ts : List Task} (steps : Agents.stepsOf i = some (a, ts)) (agent : i.engine = some b) :
    b = a := by
  cases i with
  | consume | tmo | step | tick | send | forceSend | sendChannels | schedIter =>
    cases steps
    cases agent
    rfl
  | setChannels pairs =>
    cases steps
    rw [Instr.engine] at agent
    split at agent <;> cases agent
    rfl
  | _ => simp [Agents.stepsOf] at steps

theorem Agents.withSchedule_put_planOf (a : Engine) (g : List Entry) (s : State) :
    s.withSchedule (s.schedule.put a (Agents.planOf a s) g) = { s with agenda := g } := by
  cases a <;> rfl

/-- An idle agent that begins a composite operation has its steps before it (20_memory.md R52). -/
theorem step_start {i : Instr} {e : Encoded} {a : Engine} {ts : List Task} {s : State} (decoded : decode e = .ok i)
    (steps : Agents.stepsOf i = some (a, ts)) (running : s.running) (idle : Agents.planOf a s = []) (g : List Entry) :
    step { s with agenda := .start e :: g } = .next (s.withSchedule (s.schedule.put a ts g)) := by
  have settled : Agents.settle i { s with agenda := g } = { s with agenda := g } := by
    refine Agents.settle_idle i _ fun b agent => ?_
    rw [engine_of_stepsOf steps agent, Agents.planOf_withAgenda, idle]
  have begun : Agents.begin a ts { s with agenda := g } = Agents.setPlan a ts { s with agenda := g } := by
    rw [Agents.begin, if_neg (ne_true_of_eq_false running), Agents.planOf_withAgenda, idle, List.nil_append]
  calc step { s with agenda := .start e :: g } = receive beginOp e { s with agenda := g } := rfl
    _ = .next (Agents.begin a ts { s with agenda := g }) := by rw [receive_of_decode decoded, settled, beginOp, steps]
    _ = .next (s.withSchedule (s.schedule.put a ts g)) := by rw [begun]; cases a <;> rfl

/-- An operation started and taken turn by turn ends where the operation whole ends (20_memory.md R52). -/
theorem stepN_start {i : Instr} {e : Encoded} {a : Engine} {ts : List Task} {s : State} (decoded : decode e = .ok i)
    (steps : Agents.stepsOf i = some (a, ts)) (running : s.running) (idle : Agents.planOf a s = []) :
    ∃ n t, exec i s = .next t ∧ ∀ m rest, n ≤ m →
      stepN (m + 1) { s with agenda := .start e :: (List.replicate m (.resume a) ++ rest) } = .next { t with agenda := rest } := by
  obtain ⟨t, whole, taken⟩ := takes_exec steps running
  obtain ⟨n, enough⟩ := taken.stepN a (c := s.schedule) running
  refine ⟨n, t, whole, fun m rest hm => ?_⟩
  have idleAfter : Agents.planOf a t = [] := by
    rw [← idle]
    cases a
    · exact congrArg Schedule.rxPlan taken.schedule
    · exact congrArg Schedule.txPlan taken.schedule
  rw [stepN, step_start decoded steps running idle, ← Agents.withSchedule_put_planOf a rest t, taken.schedule, idleAfter]
  exact enough m rest hm

theorem Agents.foldl_wholeTask_withSchedule (ts : List Task) (c : Schedule) (s : State) :
    ts.foldl Agents.wholeTask (s.withSchedule c) = (ts.foldl Agents.wholeTask s).withSchedule c :=
  (Agents.takes_whole ts (s.withSchedule c)).deterministic ((Agents.takes_whole ts s).withSchedule c)

theorem Agents.finish_withAgenda (a : Engine) (g : List Entry) (s : State) :
    Agents.finish a { s with agenda := g } = { Agents.finish a s with agenda := g } := by
  have same := Agents.foldl_wholeTask_withSchedule (Agents.planOf a s) { s.schedule with agenda := g } s
  have kept := (Agents.takes_whole (Agents.planOf a s) s).schedule
  unfold Agents.finish
  rw [Agents.planOf_withAgenda, Agents.setPlan_withAgenda, kept]
  refine (congrArg (Agents.setPlan a []) same).trans ?_
  cases a <;> rfl

/-- An agent scheduled to begin an operation in the middle of another takes its remaining turns first (log 18). -/
theorem step_invoke_finish {i : Instr} {e : Encoded} {a : Engine} {s : State} (decoded : decode e = .ok i) (agent : i.engine = some a)
    (running : s.running) (rest : List Entry) :
    step { s with agenda := .invoke e :: rest } = exec i { Agents.finish a s with agenda := rest } := by
  have settled : Agents.settle i { s with agenda := rest } = Agents.finish a { s with agenda := rest } := by
    rw [Agents.settle, if_neg (ne_true_of_eq_false running), agent]
  calc step { s with agenda := .invoke e :: rest } = receive exec e { s with agenda := rest } := rfl
    _ = exec i { Agents.finish a s with agenda := rest } := by rw [receive_of_decode decoded, settled, Agents.finish_withAgenda]

/-- What an agent finishes at once is what its remaining turns do. -/
theorem stepN_finish (a : Engine) {s : State} (running : s.running) : ∃ n, ∀ m rest, n ≤ m →
    stepN m { s with agenda := List.replicate m (.resume a) ++ rest } = .next { Agents.finish a s with agenda := rest } := by
  have taken := Agents.takes_whole (Agents.planOf a s) s
  obtain ⟨n, enough⟩ := taken.stepN a (c := s.schedule) running
  refine ⟨n, fun m rest hm => ?_⟩
  rw [← Agents.withSchedule_put_planOf a, enough m rest hm, Agents.finish, Agents.setPlan_withAgenda, taken.schedule]

/-! What the steps are. -/

/-- The pairs in range, each one CH_SET (46_control_inputs.md R182). -/
theorem Ops.ingress_eq (pairs : List (Int × Int)) : Ops.ingress pairs =
    (pairs.filter fun q => 1 ≤ q.1 ∧ q.1 ≤ 16 ∧ 1000 ≤ q.2 ∧ q.2 ≤ 2000).map fun q => .chSet q.1 (BitVec.ofInt 32 q.2) := by
  induction pairs with
  | nil => rfl
  | cons q qs ih =>
    have range : inCommandRange q.1 q.2 = true ↔ 1 ≤ q.1 ∧ q.1 ≤ 16 ∧ 1000 ≤ q.2 ∧ q.2 ≤ 2000 := by
      simp [inCommandRange, and_assoc]
    rw [Ops.ingress, List.filter_cons]
    simp only [range, decide_eq_true_eq, ih]
    split <;> rfl

/-- A pass of CONSUME as a step is the case row that FRAME_CHECK selects (42_link_engine.md R117 to R122). -/
theorem stepIsOperation_caseRow {i : Instr} {now : Time} {s s' : State} {goesOn : Bool} (row : exec i s = .next s')
    (pass : Ops.consumePass now s = (s', goesOn)) :
    stepIsOperation (.consume now) i (if goesOn then [.consume now] else []) s := by
  rw [stepIsOperation, Agents.runTask_consume, pass]
  exact ⟨row, rfl⟩

theorem stepIsOperation_sendGate {s : State} {f : List Byte} (running : s.running) (built : s.txInflight = .built f) :
    stepIsOperation .gate .sendGate [] s := by
  refine ⟨?_, rfl⟩
  change execSendGate s = _
  rw [execSendGate, built]
  exact congrArg _ (if_neg (ne_true_of_eq_false running))

theorem stepIsOperation_sendEmit {s : State} {f : List Byte} (running : s.running) (passed : s.txInflight = .passed f) :
    stepIsOperation .emit .sendEmit [] s := by
  refine ⟨?_, rfl⟩
  change execSendEmit s = _
  rw [execSendEmit, passed]
  exact congrArg _ (if_neg (ne_true_of_eq_false running))

theorem stepIsOperation_control {c : Control} {s : State} (running : s.running) (now : Time) (notSend : c ≠ .forceSend) :
    stepIsOperation (.control c now) (controlOp now c) [] s := by
  cases c with
  | chSet | setMode | joyAxis => exact ⟨next_whenRunning running _, rfl⟩
  | forceSend => exact absurd rfl notSend

/-- In each verdict of FRAME_CHECK the pass is that verdict's row, and CONSUME goes on where the row drops bytes (42_link_engine.md R117 to R122). -/
theorem consumePass_isItsRow {s : State} (running : s.running) (now : Time) :
    (frameCheck s.rxBuf = .waitHdr → stepIsOperation (.consume now) .waitHdr [] s) ∧
    (frameCheck s.rxBuf = .resync → stepIsOperation (.consume now) .resync [.consume now] s) ∧
    (∀ L, frameCheck s.rxBuf = .waitBody L → stepIsOperation (.consume now) .waitBody [] s) ∧
    (∀ L, frameCheck s.rxBuf = .crcOk L → stepIsOperation (.consume now) (.crcOk now) [.consume now] s) ∧
    (∀ L, frameCheck s.rxBuf = .crcBad L → stepIsOperation (.consume now) .crcBad [.consume now] s) := by
  have whole := next_whenRunning running
  refine ⟨fun v => ?_, fun v => ?_, fun L v => ?_, fun L v => ?_, fun L v => ?_⟩
  · exact stepIsOperation_caseRow (s' := s) (goesOn := false) (by simp [exec, execWaitHdr, v]) (by simp [Ops.consumePass, v])
  · exact stepIsOperation_caseRow (s' := Ops.resync s) (goesOn := true) (by simp only [exec, execResync, v, whole]) (by simp [Ops.consumePass, v])
  · exact stepIsOperation_caseRow (s' := s) (goesOn := false) (by simp [exec, execWaitBody, v]) (by simp [Ops.consumePass, v])
  · exact stepIsOperation_caseRow (s' := Ops.crcOk L now s) (goesOn := true) (by simp only [exec, execCrcOk, v, whole])
      (by simp [Ops.consumePass, v])
  · exact stepIsOperation_caseRow (s' := Ops.crcBad L s) (goesOn := true) (by simp only [exec, execCrcBad, v, whole])
      (by simp [Ops.consumePass, v])

theorem packetTimedOut_iff (s : State) (now : Time) :
    packetTimedOut s now = true ↔ 0 < s.rxLen ∧ 100 < (now - s.lastReceiveMs).toNat := by
  rw [packetTimedOut, Bool.and_eq_true, decide_eq_true_iff, decide_eq_true_iff]
  rfl

theorem sendDue_iff (s : State) (now : Time) : sendDue s now = true ↔ 10 ≤ (now - s.lastTxMs).toNat := decide_eq_true_iff

/-- Settles O17: the steps of a plan taken to their end are the operation whole, an agent's turns take its plan to its end, and each step is read off its
definition. -/
theorem atomicStepsMakeTheOperation : Obligations.AtomicStepsMakeTheOperation := by
  refine ⟨?_, fun i e a ts s => stepN_start, fun a t ts s rest running scheduled plan => ⟨_, step_resume running scheduled plan, rfl⟩,
    fun a s rest => step_resume_idle, ?_, ?_, fun now => ⟨rfl, rfl, rfl⟩, fun rx fin now => rfl, fun inputs now => rfl, ?_, ?_⟩
  · intro i a ts s steps running
    obtain ⟨t, whole, taken⟩ := takes_exec steps running
    obtain ⟨n, enough⟩ := taken.runTasks
    exact ⟨n, t, whole, enough⟩
  · intro i e a s decoded agent running
    obtain ⟨n, enough⟩ := stepN_finish a running
    exact ⟨n, Agents.finish a s, Agents.planOf_setPlan a [] _, step_invoke_finish decoded agent running, enough⟩
  · rintro now i (rfl | rfl | rfl) <;> rfl
  · intro pairs
    refine ⟨0, ?_⟩
    rw [Agents.stepsOf, Ops.ingress_eq, List.map_map]
    rfl
  · intro s now running
    have whole := next_whenRunning running
    obtain ⟨waitHdr, resync, waitBody, crcOk, crcBad⟩ := consumePass_isItsRow running now
    refine ⟨fun b => ⟨whole _, rfl⟩, ⟨whole _, rfl⟩, ⟨whole _, rfl⟩, fun f => stepIsOperation_sendGate running, fun empty => ?_,
      fun f => stepIsOperation_sendEmit running, fun empty => ?_, waitHdr, resync, waitBody, crcOk, crcBad, fun bytes late => ?_, fun inTime => ?_,
      fun bytes => if_pos bytes, fun empty => if_neg (by omega), fun due => if_pos ((sendDue_iff s now).mpr due), fun early => ?_, rfl, rfl,
      fun c => stepIsOperation_control running now, rfl⟩
    · rcases Ops.sendGate_cases s with ⟨f, built, _⟩ | ⟨f, built, _⟩ | ⟨_, e⟩
      · exact absurd built (empty f)
      · exact absurd built (empty f)
      · exact congrArg (·, []) e
    · rcases Ops.sendEmit_cases s with ⟨f, _, _, passed, _⟩ | ⟨f, _, _, _, passed, _⟩ | ⟨_, e⟩
      · exact absurd passed (empty f)
      · exact absurd passed (empty f)
      · exact congrArg (·, []) e
    · exact if_pos ((packetTimedOut_iff s now).mpr ⟨bytes, late⟩)
    · exact if_neg (by rw [packetTimedOut_iff]; omega)
    · exact if_neg (by rw [sendDue_iff]; omega)

end Sys2Proof.Machine
end

section
/-! PROOF. The wire rows and their frames (30_encoding.md R60, R61, R71, R79): a received frame of legal length decodes to the row that its address, type
and payload select, that row is well formed, and its frame is the one it was read from. -/

namespace Sys2Proof

/-! What a laid-out frame holds. -/

@[simp] theorem byteAt_frameBytes_addr (addr ty : Byte) (p : List Byte) : byteAt (frameBytes addr ty p) 0 = addr := rfl

@[simp] theorem byteAt_frameBytes_type (addr ty : Byte) (p : List Byte) : byteAt (frameBytes addr ty p) 2 = ty := rfl

@[simp] theorem framePayload_frameBytes (addr ty : Byte) (p : List Byte) : framePayload (frameBytes addr ty p) (p.length + 2) = p := by
  simp [framePayload, frameBytes]

theorem payloadOk_iff (p : List Byte) : payloadOk p = true ↔ 1 ≤ p.length ∧ p.length ≤ 60 := by simp [payloadOk]

theorem typedPayloadOk_iff (k : Kind) (p : List Byte) : typedPayloadOk k p = true ↔ k.need ≤ p.length ∧ p.length ≤ 60 := by
  simp [typedPayloadOk]

/-- A frame of legal length decodes to the row it selects. -/
theorem decodeFrame_frameBytes (addr ty : Byte) {p : List Byte} (now : Time) (legal : payloadOk p = true) :
    decodeFrame now (frameBytes addr ty p) = .ok (selectRow addr ty p now) := by
  obtain ⟨least, most⟩ := (payloadOk_iff p).mp legal
  simp [decodeFrame, frameCheck_frameBytes addr ty least most, frameBytes_length]

/-- Bytes that FRAME_CHECK accepts whole are the frame of their address, type and payload: no byte of a candidate is unread. -/
theorem frameBytes_of_accepted {bytes : List Byte} {L : Nat} (accepted : frameCheck bytes = .crcOk L) (whole : bytes.length = L + 2) :
    bytes = frameBytes (byteAt bytes 0) (byteAt bytes 2) (framePayload bytes L) := by
  obtain ⟨length, least, -, -, crc⟩ := frameCheck_crcOk accepted
  match bytes with
  | [] | [_] | [_, _] => simp only [List.length_cons, List.length_nil] at whole; omega
  | addr :: len :: ty :: rest =>
    obtain ⟨p, c, rfl⟩ := (List.eq_nil_or_concat rest).resolve_left (by rintro rfl; simp at whole; omega)
    obtain rfl : L = p.length + 2 := by simpa using whole.symm
    obtain rfl : len = BitVec.ofNat 8 (p.length + 2) := by rw [length]; simp [byteAt]
    obtain rfl : crc8 (ty :: p) = c := by simpa [byteAt] using crc
    simp [byteAt, framePayload, frameBytes]

/-- A frame that decodes is laid out as R60 says, its payload is of legal length, and it decodes to the row it selects. -/
theorem decodeFrame_eq_ok {now : Time} {bytes : List Byte} {i : Instr} (decoded : decodeFrame now bytes = .ok i) :
    ∃ addr ty p, bytes = frameBytes addr ty p ∧ payloadOk p = true ∧ i = selectRow addr ty p now := by
  unfold decodeFrame at decoded
  split at decoded
  case h_1 L accepted =>
    split at decoded <;> cases decoded
    obtain ⟨-, least, most, -⟩ := frameCheck_crcOk accepted
    have size := framePayload_length accepted
    exact ⟨_, _, _, frameBytes_of_accepted accepted ‹_›, (payloadOk_iff _).mpr (by omega), rfl⟩
  case h_2 => cases decoded

/-! The row that a frame selects. -/

/-- The type code of a kind (R64). -/
def Kind.code : Kind → Byte
  | .rc => Config.typeRc
  | .gps => Config.types.gps
  | .batt => Config.types.batt
  | .linkstat => Config.types.linkstat
  | .att => Config.types.att
  | .fmode => Config.types.fmode

/-- The row of a kind (R79). -/
def Kind.row : Kind → List Byte → Time → Instr
  | .rc, p, now => .rc p now
  | .gps, p, _ => .gps p
  | .batt, p, _ => .batt p
  | .linkstat, p, _ => .linkstat p
  | .att, p, _ => .att p
  | .fmode, p, _ => .fmode p

/-- The six codes are pairwise different, so that the type switch finds each kind by its own code and by no other. -/
theorem kindOf_eq_some_iff (ty : Byte) (k : Kind) : kindOf Config.types ty = some k ↔ ty = k.code := by
  constructor
  · intro known
    unfold kindOf at known
    split_ifs at known <;> cases known <;> assumption
  · rintro rfl
    cases k <;> rfl

theorem Kind.need_pos (k : Kind) : 1 ≤ k.need := by cases k <;> decide

theorem payloadOk_of_typed {k : Kind} {p : List Byte} (h : typedPayloadOk k p = true) : payloadOk p = true := by
  have := k.need_pos
  rw [typedPayloadOk_iff] at h
  exact (payloadOk_iff p).mpr (by omega)

theorem selectRow_foreign {addr : Byte} (foreign : addr ≠ Config.addrFc) (ty : Byte) (p : List Byte) (now : Time) :
    selectRow addr ty p now = .foreignAddr addr ty p := if_pos foreign

theorem selectRow_unknown {ty : Byte} (unknown : kindOf Config.types ty = none) (p : List Byte) (now : Time) :
    selectRow Config.addrFc ty p now = .unknown ty p := by simp [selectRow, unknown]

theorem selectRow_short {k : Kind} {p : List Byte} (short : p.length < k.need) (now : Time) :
    selectRow Config.addrFc k.code p now = .shortPayload k.code p := by
  simp [selectRow, (kindOf_eq_some_iff _ k).mpr rfl, short]

theorem selectRow_typed {k : Kind} {p : List Byte} (enough : k.need ≤ p.length) (now : Time) :
    selectRow Config.addrFc k.code p now = k.row p now := by
  rw [selectRow, if_neg (not_not_intro rfl), (kindOf_eq_some_iff _ k).mpr rfl]
  simp only [if_neg (Nat.not_lt.mpr enough)]
  cases k <;> rfl

/-- The four ways in which a frame selects its row (R79): by its address, by its type, by its payload's size, or as the row of its kind. -/
theorem selectRow_cases (addr ty : Byte) (p : List Byte) (now : Time) :
    (addr ≠ Config.addrFc ∧ selectRow addr ty p now = .foreignAddr addr ty p) ∨
    (addr = Config.addrFc ∧ kindOf Config.types ty = none ∧ selectRow addr ty p now = .unknown ty p) ∨
    (∃ k : Kind, addr = Config.addrFc ∧ ty = k.code ∧ p.length < k.need ∧ selectRow addr ty p now = .shortPayload ty p) ∨
    (∃ k : Kind, addr = Config.addrFc ∧ ty = k.code ∧ k.need ≤ p.length ∧ selectRow addr ty p now = k.row p now) := by
  by_cases foreign : addr = Config.addrFc
  case neg => exact .inl ⟨foreign, selectRow_foreign foreign ty p now⟩
  case pos =>
    subst foreign
    cases known : kindOf Config.types ty with
    | none => exact .inr (.inl ⟨rfl, rfl, selectRow_unknown known p now⟩)
    | some k =>
      obtain rfl := (kindOf_eq_some_iff ty k).mp known
      rcases Nat.lt_or_ge p.length k.need with short | enough
      · exact .inr (.inr (.inl ⟨k, rfl, rfl, short, selectRow_short short now⟩))
      · exact .inr (.inr (.inr ⟨k, rfl, rfl, enough, selectRow_typed enough now⟩))

theorem Kind.encode_row (k : Kind) (p : List Byte) (now : Time) : ∃ now', encode (k.row p now) = .rxFrame now' (fcFrame k.code p) := by
  cases k <;> exact ⟨_, rfl⟩

theorem Kind.wf_row (k : Kind) (p : List Byte) (now : Time) : (k.row p now).wf = typedPayloadOk k p := by cases k <;> rfl

/-- The row that a frame selects is laid out as that frame. -/
theorem encode_selectRow (addr ty : Byte) (p : List Byte) (now : Time) :
    ∃ now', encode (selectRow addr ty p now) = .rxFrame now' (frameBytes addr ty p) := by
  rcases selectRow_cases addr ty p now with ⟨-, row⟩ | ⟨rfl, -, row⟩ | ⟨k, rfl, rfl, -, row⟩ | ⟨k, rfl, rfl, -, row⟩ <;> rw [row]
  case inr.inr.inr => exact k.encode_row p now
  all_goals exact ⟨_, rfl⟩

/-- The row that a frame of legal length selects is well formed. -/
theorem selectRow_wf (addr ty : Byte) {p : List Byte} (now : Time) (legal : payloadOk p = true) : (selectRow addr ty p now).wf = true := by
  rcases selectRow_cases addr ty p now with ⟨foreign, row⟩ | ⟨-, unknown, row⟩ | ⟨k, -, rfl, short, row⟩ | ⟨k, -, -, enough, row⟩
  all_goals rw [row]
  · simpa [Instr.wf, legal] using foreign
  · simp [Instr.wf, legal, unknown]
  · simp [Instr.wf, legal, (kindOf_eq_some_iff _ k).mpr rfl, short]
  · rw [k.wf_row]
    exact (typedPayloadOk_iff k p).mpr ⟨enough, ((payloadOk_iff p).mp legal).2⟩

/-- Where a row of a kind has a payload of its size, its frame selects it. -/
theorem decode_typedFrame {k : Kind} {p : List Byte} (now : Time) (sized : typedPayloadOk k p = true) :
    decode (.rxFrame now (fcFrame k.code p)) = .ok (k.row p now) := by
  rw [decode, fcFrame, decodeFrame_frameBytes _ _ now (payloadOk_of_typed sized), selectRow_typed ((typedPayloadOk_iff k p).mp sized).1]

/-- Settles O1: each wire row's operands are such that its frame selects it. -/
theorem wireFramesDecodeBack : Obligations.WireFramesDecodeBack := by
  intro i now bytes wf encoded
  cases i
  case rc p t => cases encoded; exact decode_typedFrame (k := .rc) _ wf
  case gps p => cases encoded; exact decode_typedFrame (k := .gps) _ wf
  case batt p => cases encoded; exact decode_typedFrame (k := .batt) _ wf
  case linkstat p => cases encoded; exact decode_typedFrame (k := .linkstat) _ wf
  case att p => cases encoded; exact decode_typedFrame (k := .att) _ wf
  case fmode p => cases encoded; exact decode_typedFrame (k := .fmode) _ wf
  case shortPayload ty p =>
    cases encoded
    simp only [Instr.wf, Bool.and_eq_true] at wf
    obtain ⟨legal, short⟩ := wf
    rw [decode, fcFrame, decodeFrame_frameBytes _ _ _ legal]
    cases known : kindOf Config.types ty with
    | none => simp [known] at short
    | some k =>
      obtain rfl := (kindOf_eq_some_iff ty k).mp known
      rw [selectRow_short (by simpa [known] using short)]
  case unknown ty p =>
    cases encoded
    simp only [Instr.wf, Bool.and_eq_true, beq_iff_eq] at wf
    obtain ⟨legal, unknown⟩ := wf
    rw [decode, fcFrame, decodeFrame_frameBytes _ _ _ legal, selectRow_unknown unknown]
  case foreignAddr addr ty p =>
    cases encoded
    simp only [Instr.wf, Bool.and_eq_true, bne_iff_ne] at wf
    obtain ⟨legal, foreign⟩ := wf
    rw [decode, decodeFrame_frameBytes _ _ _ legal, selectRow_foreign foreign]
  all_goals cases encoded

/-- Settles O4: the bytes are the frame of the row they select. -/
theorem decodedFramesEncodeBack : Obligations.DecodedFramesEncodeBack := by
  intro now bytes i decoded
  obtain ⟨addr, ty, p, rfl, -, rfl⟩ := decodeFrame_eq_ok decoded
  exact encode_selectRow addr ty p now

end Sys2Proof
end

section
/-! PROOF. Command lines (30_encoding.md R76): a line is cut at its separators into the words it was joined from, a number is read back from its decimal
digits, and so each command is read back from its line. -/

namespace Sys2Proof

/-! Words and separators. -/

theorem splitOn_word {sep : Byte} {w : List Byte} (unbroken : sep ∉ w) : splitOn sep w = [w] := by
  induction w with
  | nil => rfl
  | cons b w ih =>
    obtain ⟨first, rest⟩ := not_or.mp (List.mem_cons.not.mp unbroken)
    rw [splitOn, if_neg (Ne.symm first), ih rest]

theorem splitOn_word_append {sep : Byte} {w : List Byte} (unbroken : sep ∉ w) (rest : List Byte) :
    splitOn sep (w ++ sep :: rest) = w :: splitOn sep rest := by
  induction w with
  | nil => exact if_pos rfl
  | cons b w ih =>
    obtain ⟨first, others⟩ := not_or.mp (List.mem_cons.not.mp unbroken)
    rw [List.cons_append, splitOn, if_neg (Ne.symm first), ih others]

/-- A line is cut into the words it was joined from. -/
theorem splitOn_joinWith {sep : Byte} (w : List Byte) (ws : List (List Byte)) (unbroken : ∀ v ∈ w :: ws, sep ∉ v) :
    splitOn sep (joinWith sep (w :: ws)) = w :: ws := by
  induction ws generalizing w with
  | nil => exact splitOn_word (unbroken w List.mem_cons_self)
  | cons v ws ih =>
    rw [joinWith, splitOn_word_append (unbroken w List.mem_cons_self), ih v fun u hu => unbroken u (List.mem_cons_of_mem w hu)]

/-! Decimal numbers. -/

theorem digitChar_toNat {d : Nat} (digit : d < 10) : (digitChar d).toNat = 48 + d := by
  rw [digitChar, BitVec.toNat_ofNat]
  omega

theorem isDigit_digitChar {d : Nat} (digit : d < 10) : isDigit (digitChar d) = true := by
  simp only [isDigit, digitChar_toNat digit, Bool.and_eq_true, decide_eq_true_eq]
  omega

/-- Digits are put in front of digits. -/
theorem decDigitsAux_all_isDigit (f n : Nat) {acc : List Byte} (digits : acc.all isDigit = true) : (decDigitsAux f n acc).all isDigit = true := by
  induction f generalizing n acc with
  | zero => exact digits
  | succ f ih =>
    have longer : (digitChar (n % 10) :: acc).all isDigit = true := by
      rw [List.all_cons, isDigit_digitChar (Nat.mod_lt n (by decide)), digits, Bool.and_self]
    rw [decDigitsAux]
    split
    · exact longer
    · exact ih _ longer

/-- Reading the digits of `n` in front of `acc` comes to reading `acc` with `n` already read. -/
theorem foldl_decDigitsAux {f n : Nat} (enough : n < f) (acc : List Byte) :
    (decDigitsAux f n acc).foldl (fun v b => 10 * v + (b.toNat - 48)) 0 = acc.foldl (fun v b => 10 * v + (b.toNat - 48)) n := by
  induction f generalizing n acc with
  | zero => omega
  | succ f ih =>
    have digit := digitChar_toNat (Nat.mod_lt n (by decide : 0 < 10))
    rw [decDigitsAux]
    split
    · rw [List.foldl_cons, digit]
      congr 1
      omega
    · rw [ih (by omega), List.foldl_cons, digit]
      congr 1
      omega

/-- The first digit is 0 only for the number 0. -/
theorem head_decDigitsAux {f n : Nat} (enough : n < f) (positive : n ≠ 0) (acc : List Byte) :
    ∃ b w, decDigitsAux f n acc = b :: w ∧ b ≠ 0x30#8 := by
  induction f generalizing n acc with
  | zero => omega
  | succ f ih =>
    rw [decDigitsAux]
    split
    · refine ⟨_, _, rfl, fun zero => ?_⟩
      have := digitChar_toNat (Nat.mod_lt n (by decide : 0 < 10))
      rw [zero] at this
      simp at this
      omega
    · exact ih (by omega) ‹_› _

theorem decDigits_all_isDigit (n : Nat) : (decDigits n).all isDigit = true := decDigitsAux_all_isDigit _ n rfl

theorem digitsValue_decDigits (n : Nat) : digitsValue (decDigits n) = n := foldl_decDigitsAux n.lt_succ_self []

/-- A number is read back from its decimal form. -/
theorem parseDec_decDigits (n : Nat) : parseDec (decDigits n) = some (n : Int) := by
  have settled : ((decDigits n).length == 1 || (1 < (decDigits n).length && (decDigits n).head? != some 0x30)) = true := by
    by_cases positive : n = 0
    · subst positive
      rfl
    · obtain ⟨b, w, digits, notZero⟩ := head_decDigitsAux n.lt_succ_self positive []
      have : decDigits n = b :: w := digits
      cases w <;> simp [this, notZero]
  rw [parseDec, decDigits_all_isDigit, settled, digitsValue_decDigits]
  rfl

theorem parseDec_toNat {v : Int} (nonneg : 0 ≤ v) : parseDec (decDigits v.toNat) = some v := by
  rw [parseDec_decDigits, Int.toNat_of_nonneg nonneg]

theorem notMem_decDigits {sep : Byte} (separator : isDigit sep = false) (n : Nat) : sep ∉ decDigits n := fun mem => by
  rw [List.all_eq_true.mp (decDigits_all_isDigit n) sep mem] at separator
  cases separator

/-! Pairs and mode words. -/

/-- A pair of numbers that have a decimal form. -/
def pairNonneg (q : Int × Int) : Prop := 0 ≤ q.1 ∧ 0 ≤ q.2

theorem parsePair_pairText {q : Int × Int} (nonneg : pairNonneg q) : parsePair (pairText q) = some q := by
  rw [parsePair, pairText, splitOn_word_append (notMem_decDigits rfl _), splitOn_word (notMem_decDigits rfl _)]
  simp only [parseDec_toNat nonneg.1, parseDec_toNat nonneg.2]

theorem parsePairs_pairText {pairs : List (Int × Int)} (nonneg : ∀ q ∈ pairs, pairNonneg q) :
    parsePairs (pairs.map pairText) = some pairs := by
  induction pairs with
  | nil => rfl
  | cons q qs ih =>
    rw [List.forall_mem_cons] at nonneg
    simp only [List.map_cons, parsePairs, parsePair_pairText nonneg.1, ih nonneg.2]

theorem charSpace_notMem_pairText (q : Int × Int) : charSpace ∉ pairText q := by
  rw [pairText, List.mem_append, List.mem_cons, not_or, not_or]
  exact ⟨notMem_decDigits rfl _, by decide, notMem_decDigits rfl _⟩

theorem parseMode_modeWord (m : Mode) : parseMode (modeWord m) = some m := by cases m <;> rfl

theorem charSpace_notMem_modeWord (m : Mode) : charSpace ∉ modeWord m := by cases m <;> decide

/-! Each command form. -/

theorem parseCommand_setChannel (now : Time) {i us : Int} (number : 0 ≤ i) (value : 0 ≤ us) :
    parseCommand now (joinWith charSpace [wordSetChannel, decDigits i.toNat, decDigits us.toNat]) = some (.setChannel i us) := by
  have unbroken : ∀ w ∈ [wordSetChannel, decDigits i.toNat, decDigits us.toNat], charSpace ∉ w := by
    simp only [List.forall_mem_cons]
    exact ⟨by decide, notMem_decDigits rfl _, notMem_decDigits rfl _, nofun⟩
  rw [parseCommand, splitOn_joinWith _ _ unbroken]
  simp only [↓reduceIte, parseDec_toNat number, parseDec_toNat value]

theorem parseCommand_setChannels (now : Time) {pairs : List (Int × Int)} (nonempty : pairs ≠ []) (nonneg : ∀ q ∈ pairs, pairNonneg q) :
    parseCommand now (joinWith charSpace (wordSetChannels :: pairs.map pairText)) = some (.setChannels pairs) := by
  have unbroken : ∀ w ∈ wordSetChannels :: pairs.map pairText, charSpace ∉ w := by
    rw [List.forall_mem_cons, List.forall_mem_map]
    exact ⟨by decide, fun q _ => charSpace_notMem_pairText q⟩
  have otherWord : wordSetChannels ≠ wordSetChannel := by decide
  rw [parseCommand, splitOn_joinWith _ _ unbroken]
  simp [if_neg otherWord, nonempty, parsePairs_pairText nonneg]

theorem parseCommand_sendChannels (now : Time) : parseCommand now wordSendChannels = some (.sendChannels now) := by
  rw [parseCommand, splitOn_word (by decide)]
  rfl

theorem parseCommand_setMode (now : Time) (m : Mode) : parseCommand now (joinWith charSpace [wordSetMode, modeWord m]) = some (.setModeText m) := by
  have unbroken : ∀ w ∈ [wordSetMode, modeWord m], charSpace ∉ w := by
    simp only [List.forall_mem_cons]
    exact ⟨by decide, charSpace_notMem_modeWord m, nofun⟩
  rw [parseCommand, splitOn_joinWith _ _ unbroken]
  exact congrArg (Option.map Instr.setModeText) (parseMode_modeWord m)

theorem decodeLine_of_parseCommand {now : Time} {line : List Byte} {i : Instr} (parsed : parseCommand now line = some i) :
    decode (.line now line) = .ok i := by
  rw [decode, decodeLine, parsed]

/-- The pairs of a well-formed `setChannels`. -/
theorem wf_setChannels_iff (pairs : List (Int × Int)) : (Instr.setChannels pairs).wf = true ↔ pairs ≠ [] ∧ ∀ q ∈ pairs, pairNonneg q := by
  simp [Instr.wf, pairNonneg]

theorem wf_setChannel_iff (i us : Int) : (Instr.setChannel i us).wf = true ↔ 0 ≤ i ∧ 0 ≤ us := by simp [Instr.wf]

/-- Settles O2: each of the four command forms is read back from its line. -/
theorem commandLinesDecodeBack : Obligations.CommandLinesDecodeBack := by
  intro i now line wf encoded
  cases i
  case setChannel i us =>
    cases encoded
    obtain ⟨number, value⟩ := (wf_setChannel_iff i us).mp wf
    exact decodeLine_of_parseCommand (parseCommand_setChannel _ number value)
  case setChannels pairs =>
    cases encoded
    obtain ⟨nonempty, nonneg⟩ := (wf_setChannels_iff pairs).mp wf
    exact decodeLine_of_parseCommand (parseCommand_setChannels _ nonempty nonneg)
  case sendChannels t =>
    cases encoded
    exact decodeLine_of_parseCommand (parseCommand_sendChannels _)
  case setModeText m =>
    cases encoded
    exact decodeLine_of_parseCommand (parseCommand_setMode _ m)
  all_goals cases encoded

/-! What a line is read as is well formed. -/

theorem parseDec_nonneg {w : List Byte} {v : Int} (parsed : parseDec w = some v) : 0 ≤ v := by
  unfold parseDec at parsed
  split at parsed <;> cases parsed
  exact Int.natCast_nonneg _

theorem parsePair_nonneg {w : List Byte} {q : Int × Int} (parsed : parsePair w = some q) : pairNonneg q := by
  unfold parsePair at parsed
  split at parsed
  · split at parsed <;> cases parsed
    exact ⟨parseDec_nonneg ‹_›, parseDec_nonneg ‹_›⟩
  · cases parsed

theorem parsePairs_nonneg {ws : List (List Byte)} {pairs : List (Int × Int)} (parsed : parsePairs ws = some pairs) :
    pairs.length = ws.length ∧ ∀ q ∈ pairs, pairNonneg q := by
  induction ws generalizing pairs with
  | nil =>
    cases parsed
    exact ⟨rfl, nofun⟩
  | cons w ws ih =>
    rw [parsePairs] at parsed
    split at parsed <;> cases parsed
    obtain ⟨length, nonneg⟩ := ih ‹_›
    exact ⟨congrArg (· + 1) length, List.forall_mem_cons.mpr ⟨parsePair_nonneg ‹_›, nonneg⟩⟩

theorem parseCommand_wf {now : Time} {line : List Byte} {i : Instr} (parsed : parseCommand now line = some i) : i.wf = true := by
  unfold parseCommand at parsed
  split at parsed
  · cases parsed
  · split_ifs at parsed with _ _ noPair
    · split at parsed
      · split at parsed <;> cases parsed
        exact (wf_setChannel_iff _ _).mpr ⟨parseDec_nonneg ‹_›, parseDec_nonneg ‹_›⟩
      · cases parsed
    · obtain ⟨pairs, parsedPairs, rfl⟩ := Option.map_eq_some_iff.mp parsed
      obtain ⟨length, nonneg⟩ := parsePairs_nonneg parsedPairs
      refine (wf_setChannels_iff pairs).mpr ⟨?_, nonneg⟩
      rintro rfl
      exact noPair (List.isEmpty_iff_length_eq_zero.mpr length.symm)
    · cases parsed
      rfl
    · split at parsed
      · obtain ⟨m, -, rfl⟩ := Option.map_eq_some_iff.mp parsed
        rfl
      · cases parsed

theorem decodeLine_wf {now : Time} {line : List Byte} {i : Instr} (decoded : decodeLine now line = .ok i) : i.wf = true := by
  unfold decodeLine at decoded
  split at decoded
  case h_1 parsed =>
    cases decoded
    exact parseCommand_wf parsed
  case h_2 =>
    split at decoded
    · cases decoded
    · split_ifs at decoded
    · cases decoded

end Sys2Proof
end

section
/-! PROOF. Call records (log 2): an operand is read back from its bytes, and so each FUNC and OP row, and the order TX_RC, from its own invocation. -/

namespace Sys2Proof

/-! Operands of fixed width. -/

theorem be16_extractLsb' (v : BitVec 16) : be16 (v.extractLsb' 8 8) (v.extractLsb' 0 8) = v := by
  rw [be16, BitVec.extractLsb'_append_extractLsb'_eq_extractLsb' (start₂ := 8) rfl]
  exact BitVec.extractLsb'_eq_self

theorem be32_extractLsb' (v : BitVec 32) : be32 (v.extractLsb' 24 8) (v.extractLsb' 16 8) (v.extractLsb' 8 8) (v.extractLsb' 0 8) = v := by
  rw [be32, BitVec.extractLsb'_append_extractLsb'_eq_extractLsb' (start₂ := 24) rfl,
    BitVec.extractLsb'_append_extractLsb'_eq_extractLsb' (start₂ := 16) rfl, BitVec.extractLsb'_append_extractLsb'_eq_extractLsb' (start₂ := 8) rfl]
  exact BitVec.extractLsb'_eq_self

theorem fitsInt32_iff (k : Int) : fitsInt32 k = true ↔ -2147483648 ≤ k ∧ k ≤ 2147483647 := by simp [fitsInt32]

theorem toInt_ofInt_of_fits {k : Int} (fits : fitsInt32 k = true) : (BitVec.ofInt 32 k).toInt = k := by
  rw [fitsInt32_iff] at fits
  exact BitVec.toInt_ofInt_eq_self (by decide) (by omega) (by omega)

/-- A 32-bit operand is read back from its bytes. -/
theorem be32_operand (f : BitVec 32 → Instr) (v : BitVec 32) :
    some (f (be32 (v.extractLsb' 24 8) (v.extractLsb' 16 8) (v.extractLsb' 8 8) (v.extractLsb' 0 8))) = some (f v) := by
  rw [be32_extractLsb']

/-- A signed operand is read back from the bytes of its word. -/
theorem be32_int_operand (f : Int → Instr) {k : Int} (fits : fitsInt32 k = true) :
    some (f (be32 ((BitVec.ofInt 32 k).extractLsb' 24 8) ((BitVec.ofInt 32 k).extractLsb' 16 8) ((BitVec.ofInt 32 k).extractLsb' 8 8)
      ((BitVec.ofInt 32 k).extractLsb' 0 8)).toInt) = some (f k) := by
  rw [be32_extractLsb', toInt_ofInt_of_fits fits]

/-! Operands of variable length. -/

theorem words32_flatMap (ws : List (BitVec 32)) : words32 (ws.flatMap bytes32) = some ws := by
  induction ws with
  | nil => rfl
  | cons w ws ih =>
    simp only [List.flatMap_cons, bytes32, List.cons_append, List.nil_append, words32]
    rw [ih, be32_extractLsb']

theorem sixteen_vectorBytes (v : Vector Chan 16) : sixteen (vectorBytes v) = some v := by
  rw [sixteen, vectorBytes, words32_flatMap]
  simp [Vector.toArray_toList]

theorem rxItems_flatMap (rx : List (Byte × Time)) : rxItems (rx.flatMap fun q => q.1 :: bytes32 q.2) = some rx := by
  induction rx with
  | nil => rfl
  | cons q rx ih =>
    simp only [List.flatMap_cons, bytes32, List.cons_append, List.nil_append, rxItems] at ih ⊢
    rw [ih, be32_extractLsb']

theorem readEndOf_readEndByte (fin : ReadEnd) : readEndOf (readEndByte fin) = some fin := by cases fin <;> rfl

/-- The two operand words of a control input's record. -/
def Control.words : Control → BitVec 32 × BitVec 32
  | .chSet k us => (BitVec.ofInt 32 k, us)
  | .setMode m => (modeWord32 m, 0)
  | .joyAxis axis a => (axis.setWidth 32, a.setWidth 32)
  | .forceSend => (0, 0)

/-- The kind byte of a control input's record. -/
def Control.kind : Control → Byte
  | .chSet _ _ => 1
  | .setMode _ => 2
  | .joyAxis _ _ => 3
  | .forceSend => 4

theorem controlBytes_eq (c : Control) : controlBytes c = c.kind :: (bytes32 c.words.1 ++ bytes32 c.words.2) := by cases c <;> rfl

theorem controlOf_words {c : Control} (wf : c.wf = true) : controlOf c.kind c.words.1 c.words.2 = some c := by
  cases c with
  | chSet k us => simp [controlOf, Control.kind, Control.words, toInt_ofInt_of_fits wf]
  | setMode m => cases m <;> rfl
  | joyAxis axis a =>
    have numbers : (axis.setWidth 32).toNat < 256 ∧ (a.setWidth 32).toNat < 65536 := by
      rw [BitVec.toNat_setWidth, BitVec.toNat_setWidth]
      omega
    have read : controlOf 3 (axis.setWidth 32) (a.setWidth 32) =
        if (axis.setWidth 32).toNat < 256 ∧ (a.setWidth 32).toNat < 65536 then
          some (.joyAxis ((axis.setWidth 32).setWidth 8) ((a.setWidth 32).setWidth 16)) else none := rfl
    rw [Control.kind, Control.words, read, if_pos numbers]
    simp
  | forceSend => rfl

theorem controls_flatMap {cs : List Control} (wf : cs.all Control.wf = true) : controls (cs.flatMap controlBytes) = some cs := by
  induction cs with
  | nil => rfl
  | cons c cs ih =>
    rw [List.all_cons, Bool.and_eq_true] at wf
    simp only [List.flatMap_cons, controlBytes_eq c, bytes32, List.cons_append, List.nil_append, controls]
    rw [be32_extractLsb', be32_extractLsb', controlOf_words wf.1, ih wf.2]

/-! Each row's record. -/

theorem decodeFunc_frameCheck (buf : List Byte) {len : Nat} (fits : len ≤ 64) :
    decodeFunc 11 (bytes16 (BitVec.ofNat 16 len) ++ buf) = some (.frameCheck buf len) := by
  have read : (be16 ((BitVec.ofNat 16 len).extractLsb' 8 8) ((BitVec.ofNat 16 len).extractLsb' 0 8)).toNat = len := by
    rw [be16_extractLsb', BitVec.toNat_ofNat]
    omega
  exact congrArg (fun n => some (Instr.frameCheck buf n)) read

theorem decodeFunc_code2us (code : BitVec 11) : decodeFunc 14 (bytes16 (code.setWidth 16)) = some (.code2us code) := by
  have small : (code.setWidth 16).toNat < 2048 := by
    rw [BitVec.toNat_setWidth]
    omega
  have operand (c1 c0 : Byte) : decodeFunc 14 [c1, c0] =
    if (be16 c1 c0).toNat < 2048 then some (.code2us ((be16 c1 c0).setWidth 11)) else none := rfl
  rw [bytes16, operand, be16_extractLsb', if_pos small]
  simp

theorem decodeOp_step (rx : List (Byte × Time)) (fin : ReadEnd) (now : Time) :
    decodeOp 30 (readEndByte fin :: (bytes32 now ++ rx.flatMap fun q => q.1 :: bytes32 q.2)) = some (.step rx fin now) := by
  have operands (e t3 t2 t1 t0 : Byte) (r : List Byte) : decodeOp 30 (e :: ([t3, t2, t1, t0] ++ r)) =
    match readEndOf e, rxItems r with
    | some fin, some rx => some (.step rx fin (be32 t3 t2 t1 t0))
    | _, _ => none := rfl
  rw [bytes32, operands, be32_extractLsb', readEndOf_readEndByte, rxItems_flatMap]

theorem decodeOp_schedIter {inputs : List Control} (wf : inputs.all Control.wf = true) (now : Time) :
    decodeOp 41 (bytes32 now ++ inputs.flatMap controlBytes) = some (.schedIter inputs now) := by
  have operands (t3 t2 t1 t0 : Byte) (r : List Byte) : decodeOp 41 ([t3, t2, t1, t0] ++ r) =
    (controls r).map fun is => .schedIter is (be32 t3 t2 t1 t0) := rfl
  rw [bytes32, operands, be32_extractLsb', controls_flatMap wf]
  rfl

/-- An operation decodes from its record if its operands are read back (log 2). -/
theorem decode_record {i : Instr} {tag : Byte} {ops : List Byte} (wf : i.wf = true) (encoded : encode i = .call (tag :: ops))
    (row : 10 ≤ tag.toNat ∧ tag.toNat ≤ 45) (read : (if tag.toNat ≤ 20 then decodeFunc tag.toNat ops else decodeOp tag.toNat ops) = some i) :
    decode (encode i) = .ok i := by
  rw [encoded, decode, decodeCall, if_pos row, read]
  exact if_pos wf

/-- Settles O3: each row's operands are read back from its record. -/
theorem callRecordsDecodeBack : Obligations.CallRecordsDecodeBack := by
  intro i wf notFrame notLine
  cases i
  case txRc => rfl
  case crc8 | frameEncode | unpack | unpackChannels | attDegrees => exact decode_record wf rfl (by decide) rfl
  case waitHdr | resync | waitBody | crcBad | chSnapshot | sendBuild | sendGate | sendEmit | stop => exact decode_record wf rfl (by decide) rfl
  case us2code us => exact decode_record wf rfl (by decide) (be32_operand .us2code us)
  case rxb b t => exact decode_record wf rfl (by decide) (be32_operand (.rxb b) t)
  case consume now => exact decode_record wf rfl (by decide) (be32_operand .consume now)
  case crcOk now => exact decode_record wf rfl (by decide) (be32_operand .crcOk now)
  case tmo now => exact decode_record wf rfl (by decide) (be32_operand .tmo now)
  case ldn now => exact decode_record wf rfl (by decide) (be32_operand .ldn now)
  case dispatch addr ty p now => exact decode_record wf rfl (by decide) (be32_operand (.dispatch addr ty p) now)
  case tick now => exact decode_record wf rfl (by decide) (be32_operand .tick now)
  case send now => exact decode_record wf rfl (by decide) (be32_operand .send now)
  case forceSend now => exact decode_record wf rfl (by decide) (be32_operand .forceSend now)
  case frameCheck buf len =>
    obtain ⟨within, size⟩ : len ≤ buf.length ∧ buf.length ≤ 64 := by simpa [Instr.wf] using wf
    exact decode_record wf rfl (by decide) (decodeFunc_frameCheck buf (within.trans size))
  case code2usRaw code => exact decode_record wf rfl (by decide) (be32_int_operand .code2usRaw wf)
  case code2us code => exact decode_record wf rfl (by decide) (decodeFunc_code2us code)
  case pack codes => exact decode_record wf rfl (by decide) (congrArg (Option.map Instr.pack) (sixteen_vectorBytes codes))
  case packChannels us => exact decode_record wf rfl (by decide) (congrArg (Option.map Instr.packChannels) (sixteen_vectorBytes us))
  case step rx fin now => exact decode_record wf rfl (by decide) (decodeOp_step rx fin now)
  case chGet k => exact decode_record wf rfl (by decide) (be32_int_operand .chGet wf)
  case chSet k us => exact decode_record wf rfl (by decide) ((be32_int_operand (.chSet · _) wf).trans (be32_operand (.chSet k) us))
  case schedIter inputs now => exact decode_record wf rfl (by decide) (decodeOp_schedIter wf now)
  case setMode m => cases m <;> exact decode_record wf rfl (by decide) rfl
  case setIgnoreTel v => cases v <;> exact decode_record wf rfl (by decide) rfl
  case joyAxis axis a =>
    exact decode_record wf rfl (by decide) (congrArg (fun w => some (Instr.joyAxis axis w)) (be16_extractLsb' a))
  case rc | gps | batt | linkstat | att | fmode | shortPayload | unknown | foreignAddr => exact absurd rfl (notFrame _ _)
  case setChannel | setChannels | sendChannels | setModeText => exact absurd rfl (notLine _ _)

end Sys2Proof
end

section
/-! PROOF. What decodes is well formed, and the spec's written-out words are encodings of well-formed operations. -/

namespace Sys2Proof

theorem decodeFrame_wf {now : Time} {bytes : List Byte} {i : Instr} (decoded : decodeFrame now bytes = .ok i) : i.wf = true := by
  obtain ⟨addr, ty, p, -, legal, rfl⟩ := decodeFrame_eq_ok decoded
  exact selectRow_wf addr ty now legal

/-- A record whose operands are out of their ranges is not decoded (log 2). -/
theorem decodeCall_wf {bytes : List Byte} {i : Instr} (decoded : decodeCall bytes = .ok i) : i.wf = true := by
  unfold decodeCall at decoded
  split at decoded
  · cases decoded
  · split at decoded
    · split at decoded
      · split at decoded <;> cases decoded
        assumption
      · cases decoded
    · cases decoded

/-- Settles O5, by the form of the invocation. -/
theorem decodedOperationsAreWellFormed : Obligations.DecodedOperationsAreWellFormed := by
  intro e i decoded
  cases e with
  | rxFrame now bytes => exact decodeFrame_wf decoded
  | txFrame bytes =>
    simp only [decode] at decoded
    split at decoded <;> cases decoded
    rfl
  | line now line => exact decodeLine_wf decoded
  | call bytes => exact decodeCall_wf decoded

/-- Settles O6: each word is the encoding of a well-formed operation, from which that operation decodes; the
kernel evaluates the CRC bytes. -/
theorem writtenOutWordsDecode : Obligations.WrittenOutWordsDecode :=
  ⟨wireFramesDecodeBack (.att [0x00, 0x00, 0x06, 0xD6, 0x0D, 0xAC]) 0 _ (by decide) (by decide +kernel),
    wireFramesDecodeBack (.unknown 0x7F [0x01, 0x02]) 0 _ (by decide) (by decide +kernel),
    wireFramesDecodeBack (.rc (List.replicate 22 0) 9) 9 _ (by decide) (by decide +kernel),
    wireFramesDecodeBack (.foreignAddr 0xEE 0x16 (List.replicate 22 0)) 0 _ (by decide) (by decide +kernel),
    callRecordsDecodeBack .txRc rfl nofun nofun,
    commandLinesDecodeBack (.setModeText .manual) 0 _ rfl rfl⟩

end Sys2Proof
end

section
/-! PROOF. The CRC of 40_frame_codec.md R90 detects every change of one byte: each bit pass of the loop is injective because the polynomial is odd, so the
register after a byte determines the register before it and the byte that entered. -/

namespace Sys2Proof

/-! The bit loop. -/

/-- The bit shifted out returns at the bottom: the polynomial is odd. -/
theorem crcBit_getLsbD_zero (c : Byte) : (crcBit c).getLsbD 0 = c.getLsbD 7 := by
  unfold crcBit
  cases top : c.getLsbD 7 <;> simp

/-- Two bytes with equal top bits and equal lower seven bits are equal. -/
theorem byte_eq_of_shiftLeft_one {a b : Byte} (top : a.getLsbD 7 = b.getLsbD 7) (lower : a <<< 1 = b <<< 1) : a = b := by
  refine BitVec.eq_of_getElem_eq fun i inside => ?_
  obtain below | rfl : i < 7 ∨ i = 7 := by omega
  · have moved := congrArg (fun v : Byte => v.getLsbD (i + 1)) lower
    simpa [show i + 1 < 8 by omega] using moved
  · exact top

theorem crcBit_injective : Function.Injective crcBit := by
  intro a b same
  have top : a.getLsbD 7 = b.getLsbD 7 := by rw [← crcBit_getLsbD_zero, same, crcBit_getLsbD_zero]
  refine byte_eq_of_shiftLeft_one top ?_
  unfold crcBit at same
  rw [top] at same
  split at same
  · exact (BitVec.xor_left_inj _).mp same
  · exact same

theorem crcBits_injective (n : Nat) : Function.Injective (crcBits n) := by
  induction n with
  | zero => exact fun _ _ same => same
  | succ n ih => exact fun _ _ same => crcBit_injective (ih same)

/-- A zero register stays zero (R90). -/
theorem crcBits_zero (n : Nat) : crcBits n 0 = 0 := by
  induction n with
  | zero => rfl
  | succ n ih => exact ih

/-! One byte entering the register. -/

theorem crcByte_self (c : Byte) : crcByte c c = 0 := by
  rw [crcByte, BitVec.xor_self]
  exact crcBits_zero 8

theorem crcByte_eq_zero_iff {c b : Byte} : crcByte c b = 0 ↔ c = b := by
  constructor
  · intro zero
    exact BitVec.xor_eq_zero_iff.mp (crcBits_injective 8 (zero.trans (crcBits_zero 8).symm))
  · rintro rfl
    exact crcByte_self c

theorem crcByte_register_injective (b : Byte) : Function.Injective fun c => crcByte c b :=
  fun _ _ same => (BitVec.xor_left_inj _).mp (crcBits_injective 8 same)

theorem crcByte_byte_injective (c : Byte) : Function.Injective (crcByte c) :=
  fun _ _ same => (BitVec.xor_right_inj _).mp (crcBits_injective 8 same)

/-- The register at the beginning is determined by the bytes that entered and the register at the end. -/
theorem foldl_crcByte_injective (bs : List Byte) : Function.Injective fun c => bs.foldl crcByte c := by
  induction bs with
  | nil => exact fun _ _ same => same
  | cons b bs ih => exact fun _ _ same => crcByte_register_injective b (ih same)

/-! The CRC of a sequence. -/

theorem crc8_singleton (b : Byte) : crc8 [b] = crcBits 8 b := by simp [crc8, crcByte]

theorem crc8_append_cons (before : List Byte) (b : Byte) (after : List Byte) :
    crc8 (before ++ b :: after) = after.foldl crcByte (crcByte (crc8 before) b) := by simp [crc8]

theorem crc8_append_singleton (bs : List Byte) (b : Byte) : crc8 (bs ++ [b]) = crcByte (crc8 bs) b := crc8_append_cons bs b []

/-- The residue is zero exactly when the last byte is the CRC of those before it (R90). -/
theorem crc8_append_eq_zero_iff {bs : List Byte} {b : Byte} : crc8 (bs ++ [b]) = 0 ↔ crc8 bs = b := by
  rw [crc8_append_singleton, crcByte_eq_zero_iff]

theorem crc8_replicate_zero (n : Nat) : crc8 (List.replicate n 0) = 0 := by
  induction n with
  | zero => rfl
  | succ n ih => rw [List.replicate_succ', crc8_append_singleton, ih, crcByte_self]

/-- Changing one byte changes the CRC. -/
theorem crc8_set_ne {bs : List Byte} {i : Nat} {b : Byte} (inside : i < bs.length) (changed : b ≠ bs[i]) :
    crc8 (bs.set i b) ≠ crc8 bs := by
  have parts : bs.take i ++ bs[i] :: bs.drop (i + 1) = bs := by simp
  have unchanged : crc8 bs = (bs.drop (i + 1)).foldl crcByte (crcByte (crc8 (bs.take i)) bs[i]) := by rw [← crc8_append_cons, parts]
  intro same
  rw [List.set_eq_take_append_cons_drop, if_pos inside, crc8_append_cons, unchanged] at same
  exact changed (crcByte_byte_injective _ (foldl_crcByte_injective _ same))

/-! The table form (R91). -/

/-- The 256 entries, each evaluated by the kernel. -/
theorem crcTable_eq : Machine.crcTable = (List.range 256).map fun i => crc8 [BitVec.ofNat 8 i] := by decide +kernel

theorem crcTable_getElem? (b : Byte) : Machine.crcTable[b.toNat]? = some (crc8 [b]) := by
  have small : b.toNat < 256 := b.isLt
  simp [crcTable_eq, small]

/-- Settles O25: the table entry by entry, the rest by the step law of the register. -/
theorem crcTableFormAndResidue : Obligations.CrcTableFormAndResidue :=
  ⟨rfl, crcTable_getElem?, fun bs b => by rw [crc8_append_singleton, crc8_singleton, crcByte],
    fun _ => crc8_append_eq_zero_iff.mpr rfl, crc8_replicate_zero⟩

end Sys2Proof
end

section
/-! PROOF. FRAME_CHECK (40_frame_codec.md R92): the verdict in each case, that a complete candidate is accepted exactly when type, payload and CRC leave
the residue zero, and so the rejection of every single-bit error (R94) and the acceptance of every encoded frame (R93). -/

namespace Sys2Proof

/-! The verdict, case by case: the converse of the lemmas in Laws/Ops. -/

theorem frameCheck_of_short {buf : List Byte} (short : buf.length < 2) : frameCheck buf = .waitHdr := by
  unfold frameCheck
  rw [if_pos short]

theorem frameCheck_of_illegal {buf : List Byte} (header : 2 ≤ buf.length)
    (illegal : (byteAt buf 1).toNat < 3 ∨ 62 < (byteAt buf 1).toNat) : frameCheck buf = .resync := by
  unfold frameCheck
  rw [if_neg (by omega)]
  exact if_pos illegal

theorem frameCheck_of_legal {buf : List Byte} {L : Nat} (header : 2 ≤ buf.length) (len : (byteAt buf 1).toNat = L) (least : 3 ≤ L)
    (most : L ≤ 62) : frameCheck buf = if buf.length < L + 2 then .waitBody L
      else if crc8 ((buf.drop 2).take (L - 1)) = byteAt buf (L + 1) then .crcOk L else .crcBad L := by
  subst len
  unfold frameCheck
  rw [if_neg (by omega)]
  exact if_neg (by simp only [Config.lenMin, Config.lenMax]; omega)

theorem frameCheck_of_complete {buf : List Byte} {L : Nat} (len : (byteAt buf 1).toNat = L) (least : 3 ≤ L) (most : L ≤ 62)
    (complete : L + 2 ≤ buf.length) :
    frameCheck buf = if crc8 ((buf.drop 2).take (L - 1)) = byteAt buf (L + 1) then .crcOk L else .crcBad L := by
  rw [frameCheck_of_legal (by omega) len least most, if_neg (by omega)]

/-! The residue. -/

/-- Type, payload and CRC are type and payload with the CRC byte appended. -/
theorem body_eq_append_crc {buf : List Byte} {L : Nat} (least : 3 ≤ L) (complete : L + 2 ≤ buf.length) :
    (buf.drop 2).take L = (buf.drop 2).take (L - 1) ++ [byteAt buf (L + 1)] := by
  obtain ⟨n, rfl⟩ : ∃ n, L = n + 1 := ⟨L - 1, by omega⟩
  have inside : n < (buf.drop 2).length := by rw [List.length_drop]; omega
  rw [List.take_succ_eq_append_getElem inside, List.getElem_drop, byteAt, List.getD_eq_getElem _ _ (by omega)]
  simp only [Nat.add_sub_cancel, show 2 + n = n + 1 + 1 by omega]

/-- A complete candidate is accepted exactly when type, payload and CRC leave the residue zero. -/
theorem frameCheck_eq_residue {buf : List Byte} {L : Nat} (len : (byteAt buf 1).toNat = L) (least : 3 ≤ L) (most : L ≤ 62)
    (complete : L + 2 ≤ buf.length) : frameCheck buf = if crc8 ((buf.drop 2).take L) = 0 then .crcOk L else .crcBad L := by
  rw [frameCheck_of_complete len least most complete, body_eq_append_crc least complete]
  simp only [crc8_append_eq_zero_iff]

/-! Single-bit errors. -/

theorem flipped_ne (b : Byte) {k : Nat} (bit : k < 8) : b ^^^ (1#8 <<< k) ≠ b := by
  intro same
  have kept := congrArg (fun v : Byte => v.getLsbD k) same
  simp [bit] at kept

theorem byteAt_set_ne {buf : List Byte} {j k : Nat} (other : j ≠ k) (b : Byte) : byteAt (buf.set j b) k = byteAt buf k := by
  simp only [byteAt, List.getD_eq_getElem?_getD, List.getElem?_set_ne other]

/-- An accepted candidate of which one byte of type, payload or CRC is changed is rejected. -/
theorem frameCheck_set_crcBad {buf : List Byte} {L j : Nat} {b : Byte} (accepted : frameCheck buf = .crcOk L) (first : 2 ≤ j)
    (last : j ≤ L + 1) (changed : b ≠ byteAt buf j) : frameCheck (buf.set j b) = .crcBad L := by
  obtain ⟨len, least, most, complete, crc⟩ := frameCheck_crcOk accepted
  have residue : crc8 ((buf.drop 2).take L) = 0 := by
    rw [body_eq_append_crc least complete]
    exact crc8_append_eq_zero_iff.mpr crc
  have body : ((buf.set j b).drop 2).take L = ((buf.drop 2).take L).set (j - 2) b := by
    rw [List.drop_set, if_neg (by omega), List.take_set]
  have inside : j - 2 < ((buf.drop 2).take L).length := by
    rw [List.length_take, List.length_drop]
    omega
  have differs : b ≠ ((buf.drop 2).take L)[j - 2] := by
    rw [byteAt, List.getD_eq_getElem _ _ (by omega)] at changed
    simpa [show 2 + (j - 2) = j by omega] using changed
  have sameLen : (byteAt (buf.set j b) 1).toNat = L := by
    rw [byteAt_set_ne (by omega), len]
  rw [frameCheck_eq_residue sameLen least most (by rwa [List.length_set]), body, if_neg]
  rw [← residue]
  exact crc8_set_ne inside differs

/-- Settles O26: a flipped bit changes its byte. -/
theorem singleBitFlipsAreRejected : Obligations.SingleBitFlipsAreRejected :=
  fun buf _ j _ accepted first last bit => frameCheck_set_crcBad accepted first last (flipped_ne (byteAt buf j) bit)

/-! Encoded frames. -/

theorem byteAt_append {buf : List Byte} (rest : List Byte) {k : Nat} (inside : k < buf.length) :
    byteAt (buf ++ rest) k = byteAt buf k := List.getD_append _ _ _ _ inside

/-- What follows an accepted candidate in the buffer does not matter. -/
theorem frameCheck_append_crcOk {buf : List Byte} {L : Nat} (rest : List Byte) (accepted : frameCheck buf = .crcOk L) :
    frameCheck (buf ++ rest) = .crcOk L := by
  obtain ⟨len, least, most, complete, crc⟩ := frameCheck_crcOk accepted
  have sameLen : (byteAt (buf ++ rest) 1).toNat = L := by rw [byteAt_append rest (by omega), len]
  have covered : ((buf ++ rest).drop 2).take (L - 1) = (buf.drop 2).take (L - 1) := by
    rw [List.drop_append_of_le_length (by omega), List.take_append_of_le_length (by rw [List.length_drop]; omega)]
  rw [frameCheck_of_complete sameLen least most (by rw [List.length_append]; omega), covered, byteAt_append rest (by omega), if_pos crc]

theorem frameEncode_eq (addr ty : Byte) (p : List Byte) :
    frameEncode addr ty p = if 1 ≤ p.length ∧ p.length ≤ 60 then some (frameBytes addr ty p) else none := by
  unfold frameEncode
  by_cases legal : 1 ≤ p.length ∧ p.length ≤ 60
  · rw [if_pos legal, if_neg (by simp only [Config.payloadMax]; omega)]
  · rw [if_neg legal, if_pos (by simp only [Config.payloadMax]; omega)]

end Sys2Proof

namespace Sys2Proof.Machine

theorem exec_frameCheck (buf : List Byte) (len : Nat) (s : State) :
    exec (.frameCheck buf len) s = .next { s with result := .verdict (frameCheck (buf.take len)) } := rfl

theorem exec_frameEncode (addr ty : Byte) (p : List Byte) (s : State) :
    exec (.frameEncode addr ty p) s =
      .next { s with result := if 1 ≤ p.length ∧ p.length ≤ 60 then .bytes (frameBytes addr ty p) else .noFrame } := by
  rw [exec, execFrameEncode, frameEncode_eq]
  by_cases legal : 1 ≤ p.length ∧ p.length ≤ 60
  · rw [if_pos legal, if_pos legal]
    rfl
  · rw [if_neg legal, if_neg legal]
    rfl

/-- Settles O27: the check accepts the frame alone, and so whatever follows it. -/
theorem encodedFramesAreAccepted : Obligations.EncodedFramesAreAccepted := by
  intro addr ty p rest s least most
  refine ⟨frameBytes addr ty p, ?_, rfl, frameBytes_length addr ty p, ?_⟩
  · rw [exec_frameEncode, if_pos ⟨least, most⟩]
  · exact frameCheck_append_crcOk rest (frameCheck_frameBytes addr ty least most)

/-! The verdict over the first `len` bytes of a buffer. -/

theorem byteAt_take {buf : List Byte} {len k : Nat} (inside : k < len) : byteAt (buf.take len) k = buf.getD k 0 := by
  simp [byteAt, List.getD_eq_getElem?_getD, inside]

/-- The bytes 2 to `L` of a buffer, one by one. -/
theorem bytes_two_to {buf : List Byte} {n : Nat} (inside : n + 2 ≤ buf.length) :
    (List.range n).map (fun k => buf.getD (2 + k) 0) = (buf.drop 2).take n := by
  refine List.ext_getElem (by simp; omega) fun k hk _ => ?_
  have small : k < n := by simpa using hk
  simp [List.getD_eq_getElem?_getD, show 2 + k < buf.length by omega]

/-- Settles O28: the verdict in each case of R92. -/
theorem frameCheckVerdicts : Obligations.FrameCheckVerdicts := by
  intro buf len L s within lenByte
  have size : (buf.take len).length = len := by rw [List.length_take]; omega
  have lenByteTaken (header : 2 ≤ len) : (byteAt (buf.take len) 1).toNat = L := by rw [byteAt_take (by omega), lenByte]
  have complete (least : 3 ≤ L) (most : L ≤ 62) (whole : L + 2 ≤ len) : frameCheck (buf.take len) =
      if crc8 ((List.range (L - 1)).map fun k => buf.getD (2 + k) 0) = buf.getD (L + 1) 0 then .crcOk L else .crcBad L := by
    rw [frameCheck_of_complete (lenByteTaken (by omega)) least most (by omega), byteAt_take (by omega), bytes_two_to (by omega),
      List.drop_take, List.take_take, Nat.min_eq_left (by omega)]
  refine ⟨frameCheck (buf.take len), exec_frameCheck buf len s, fun short => ?_, fun header illegal => ?_,
    fun header least most partly => ?_, fun least most whole crc => ?_, fun least most whole crc => ?_⟩
  · exact frameCheck_of_short (by omega)
  · exact frameCheck_of_illegal (by omega) (by rwa [lenByteTaken header])
  · rw [frameCheck_of_legal (by omega) (lenByteTaken header) least most, if_pos (by omega)]
  · rw [complete least most whole, if_pos crc]
  · rw [complete least most whole, if_neg crc]

end Sys2Proof.Machine
end

section
/-! PROOF. The pure functions answer their value and change nothing else (40_frame_codec.md, 41_channel_codec.md, 43_dispatch.md R141). -/

namespace Sys2Proof

theorem le_clamp (v : Int) {lo hi : Int} (ordered : lo ≤ hi) : lo ≤ clamp v lo hi := by
  unfold clamp
  split_ifs <;> omega

theorem clamp_le (v : Int) {lo hi : Int} (ordered : lo ≤ hi) : clamp v lo hi ≤ hi := by
  unfold clamp
  split_ifs <;> omega

/-- A decoded channel is in range (41_channel_codec.md R101). -/
theorem code2us_mem (code : Int) : 1000 ≤ code2us code ∧ code2us code ≤ 2000 := ⟨le_clamp _ (by decide), clamp_le _ (by decide)⟩

/-- A decoded channel fits an element of the channel store. -/
theorem toInt_ofInt_code2us (code : Int) : (BitVec.ofInt 32 (code2us code)).toInt = code2us code := by
  obtain ⟨least, most⟩ := code2us_mem code
  rw [BitVec.toInt_ofInt_eq_self] <;> omega

theorem unpackChannels_toInt (p : List Byte) (i : Fin 16) : ((unpackChannels p)[i]).toInt = code2us ((unpack p).getD i 0) := by
  have inside : i < (unpack p).length := by simp [unpack]
  rw [List.getD_eq_getElem _ _ inside, ← toInt_ofInt_code2us]
  simp [unpackChannels]

end Sys2Proof

namespace Sys2Proof.Machine

theorem exec_crc8 (bs : List Byte) (s : State) : exec (.crc8 bs) s = .next { s with result := .byte (crc8 bs) } := rfl

theorem exec_code2usRaw (code : Int) (s : State) :
    exec (.code2usRaw code) s = .next { s with result := .int (code2usRaw code) } := rfl

theorem exec_code2us (code : BitVec 11) (s : State) :
    exec (.code2us code) s = .next { s with result := .int (code2us code.toNat) } := rfl

theorem exec_us2code (us : Chan) (s : State) : exec (.us2code us) s = .next { s with result := .int (us2code us.toInt) } := rfl

theorem exec_pack (codes : Vector Chan 16) (s : State) :
    exec (.pack codes) s = .next { s with result := .bytes (pack (codes.toList.map BitVec.toInt)) } := rfl

theorem exec_unpack (p : List Byte) (s : State) : exec (.unpack p) s = .next { s with result := .codes (unpack p) } := rfl

theorem exec_packChannels (us : Vector Chan 16) (s : State) :
    exec (.packChannels us) s = .next { s with result := .bytes (packChannels us) } := rfl

theorem exec_unpackChannels (p : List Byte) (s : State) :
    exec (.unpackChannels p) s = .next { s with result := .channels (unpackChannels p) } := rfl

theorem exec_attDegrees (s : State) :
    exec .attDegrees s = .next { s with result := .degrees (attDegrees s.att.pitchRaw s.att.rollRaw s.att.yawRaw) } := rfl

/-- Settles O24, function by function. -/
theorem functionsAnswerAndChangeNothing : Obligations.FunctionsAnswerAndChangeNothing := fun s =>
  ⟨(exec_crc8 · s), (exec_frameCheck · · s), (exec_frameEncode · · · s), (exec_code2usRaw · s), (exec_code2us · s), (exec_us2code · s),
    (exec_pack · s), (exec_unpack · s), (exec_packChannels · s),
    fun p => ⟨unpackChannels p, exec_unpackChannels p s, unpackChannels_toInt p⟩, exec_attDegrees s⟩

end Sys2Proof.Machine
end

section
/-! PROOF. The channel conversions of 41_channel_codec.md: US2CODE is its first estimate, since CODE2US_RAW reads every estimate back exactly, so the
fidelity adjustment never fires (R103, R108, R109). -/

namespace Sys2Proof

theorem clamp_of_mem {v lo hi : Int} (least : lo ≤ v) (most : v ≤ hi) : clamp v lo hi = v := by
  rw [clamp, if_neg (by omega), if_neg (by omega)]

theorem clamp_clamp (v : Int) {lo hi : Int} (ordered : lo ≤ hi) : clamp (clamp v lo hi) lo hi = clamp v lo hi :=
  clamp_of_mem (le_clamp v ordered) (clamp_le v ordered)

theorem clamp_mono {v w : Int} (le : v ≤ w) {lo hi : Int} (ordered : lo ≤ hi) : clamp v lo hi ≤ clamp w lo hi := by
  unfold clamp
  split_ifs <;> omega

/-- On the nominal range the estimate of US2CODE is a code already, and its second clamp does nothing (R103). -/
theorem us2codeFirst_of_mem {u : Int} (least : 1000 ≤ u) (most : u ≤ 2000) :
    us2codeFirst u = (2 * (191000 + (u - 1000) * 1601) + 1000) / 2000 := by
  simp only [us2codeFirst, Config.codeMin, Config.codeMax, Config.usMin, Config.usSpan, Config.codeSpan]
  rw [clamp_of_mem] <;> omega

/-- A microsecond is 1.601 codes, so rounding to a code loses less than half a microsecond (R108). -/
theorem code2usRaw_us2codeFirst {u : Int} (least : 1000 ≤ u) (most : u ≤ 2000) : code2usRaw (us2codeFirst u) = u := by
  rw [us2codeFirst_of_mem least most]
  simp only [code2usRaw, Config.codeMin, Config.usMin, Config.usSpan, Config.codeSpan]
  omega

/-- The fidelity adjustment of US2CODE never fires (R103). -/
theorem us2code_eq (us : Int) : us2code us = us2codeFirst (clamp us 1000 2000) := by
  have back := code2usRaw_us2codeFirst (le_clamp us (lo := 1000) (hi := 2000) (by decide)) (clamp_le us (by decide))
  exact if_neg fun fires => fires.1 back

theorem us2code_clamp (us : Int) : us2code us = us2code (clamp us 1000 2000) := by
  rw [us2code_eq us, us2code_eq (clamp us 1000 2000), clamp_clamp us (by decide)]

theorem us2code_of_mem {u : Int} (least : 1000 ≤ u) (most : u ≤ 2000) : us2code u = (2 * (191000 + (u - 1000) * 1601) + 1000) / 2000 := by
  rw [us2code_eq, clamp_of_mem least most, us2codeFirst_of_mem least most]

theorem us2code_mem (us : Int) : 191 ≤ us2code us ∧ us2code us ≤ 1792 := by
  have least := le_clamp us (lo := 1000) (hi := 2000) (by decide)
  have most := clamp_le us (lo := 1000) (hi := 2000) (by decide)
  rw [us2code_clamp, us2code_of_mem least most]
  omega

theorem us2code_mono {u v : Int} (le : u ≤ v) : us2code u ≤ us2code v := by
  have clamped := clamp_mono le (lo := 1000) (hi := 2000) (by decide)
  rw [us2code_clamp u, us2code_clamp v, us2code_of_mem (le_clamp u (by decide)) (clamp_le u (by decide)),
    us2code_of_mem (le_clamp v (by decide)) (clamp_le v (by decide))]
  omega

theorem code2us_us2code {u : Int} (least : 1000 ≤ u) (most : u ≤ 2000) : code2us (us2code u) = u := by
  rw [us2code_eq, clamp_of_mem least most, code2us, code2usRaw_us2codeFirst least most]
  exact clamp_of_mem least most

/-- The codes that survive the reverse trip are the values of US2CODE (R108). -/
theorem us2code_code2us_iff (c : Int) : us2code (code2us c) = c ↔ ∃ u, 1000 ≤ u ∧ u ≤ 2000 ∧ c = us2code u := by
  constructor
  · intro survives
    obtain ⟨least, most⟩ := code2us_mem c
    exact ⟨code2us c, least, most, survives.symm⟩
  · rintro ⟨u, least, most, rfl⟩
    rw [code2us_us2code least most]

/-- Settles O30: the estimate is the code, and every clause is arithmetic on it. -/
theorem encodedCodes : Obligations.EncodedCodes :=
  ⟨us2code_mem, us2code_clamp, fun _ => us2code_of_mem, fun _ _ => us2code_mono⟩

end Sys2Proof
end

section
/-! PROOF. PACK and UNPACK (41_channel_codec.md R104, R105). The bit stream is one number; the codes are its digits to the base `2 ^ 11` and the payload
bytes its digits to the base 256, sixteen of the one and twenty-two of the other covering the same 176 bits. -/

namespace Sys2Proof

/-! Digits to any base. -/

/-- The first `n` digits of a number. -/
def digitsOf (b n N : Nat) : List Nat := (List.range n).map fun k => N / b ^ k % b

theorem ofDigits_digitsOf (b n N : Nat) : Nat.ofDigits b (digitsOf b n N) = N % b ^ n := by
  induction n with
  | zero => simp [digitsOf, Nat.mod_one]
  | succ n ih =>
    have last : digitsOf b (n + 1) N = digitsOf b n N ++ [N / b ^ n % b] := by simp [digitsOf, List.range_succ]
    have length : (digitsOf b n N).length = n := by simp [digitsOf]
    rw [last, Nat.ofDigits_append, ih, Nat.ofDigits_singleton, length, Nat.mod_pow_succ]

theorem ofDigits_div_pow_mod {b : Nat} (base : 0 < b) {ds : List Nat} (digits : ∀ d ∈ ds, d < b) (k : Nat) :
    Nat.ofDigits b ds / b ^ k % b = ds.getD k 0 := by
  rw [Nat.ofDigits_div_pow_eq_ofDigits_drop k base ds digits]
  by_cases inside : k < ds.length
  · rw [List.drop_eq_getElem_cons inside, Nat.ofDigits_cons, Nat.add_mul_mod_self_left, Nat.mod_eq_of_lt (digits _ (List.getElem_mem inside)),
      List.getD_eq_getElem _ _ inside]
  · rw [List.drop_eq_nil_of_le (by omega), List.getD_eq_default _ _ (by omega), Nat.ofDigits_nil, Nat.zero_mod]

theorem digitsOf_ofDigits {b : Nat} (base : 0 < b) {ds : List Nat} (digits : ∀ d ∈ ds, d < b) : digitsOf b ds.length (Nat.ofDigits b ds) = ds := by
  refine List.ext_getElem (by simp [digitsOf]) fun k _ inside => ?_
  simp only [digitsOf, List.getElem_map, List.getElem_range]
  rw [ofDigits_div_pow_mod base digits, List.getD_eq_getElem _ _ inside]

theorem ofDigits_eq_sum (b : Nat) (ds : List Nat) : Nat.ofDigits b ds = ∑ k ∈ Finset.range ds.length, ds.getD k 0 * b ^ k := by
  induction ds with
  | nil => rfl
  | cons d ds ih =>
    rw [Nat.ofDigits_cons, ih, List.length_cons, Finset.sum_range_succ', Finset.mul_sum, add_comm]
    simp [pow_succ, mul_comm, mul_assoc]

/-! The bit stream as digits. -/

/-- The digits that the codes are. -/
def codeDigits (codes : List Int) : List Nat := codes.map fun c => (c % 2048).toNat

theorem codeDigits_lt (codes : List Int) : ∀ d ∈ codeDigits codes, d < 2048 := by
  simp only [codeDigits, List.forall_mem_map]
  omega

theorem byteDigits_lt (p : List Byte) : ∀ d ∈ p.map BitVec.toNat, d < 256 := by
  simp only [List.forall_mem_map]
  exact fun b _ => b.isLt

theorem streamOfCodes_eq (codes : List Int) : streamOfCodes codes = Nat.ofDigits 2048 (codeDigits codes) := by
  induction codes with
  | nil => rfl
  | cons c codes ih => simp [streamOfCodes, codeDigits, Nat.ofDigits_cons, ih]

theorem streamOfBytes_eq (p : List Byte) : streamOfBytes p = Nat.ofDigits 256 (p.map BitVec.toNat) := by
  induction p with
  | nil => rfl
  | cons b p ih => simp [streamOfBytes, Nat.ofDigits_cons, ih]

theorem streamOfCodes_lt {codes : List Int} (sixteen : codes.length = 16) : streamOfCodes codes < 2048 ^ 16 := by
  have bound := Nat.ofDigits_lt_base_pow_length (by decide) (codeDigits_lt codes)
  rwa [← streamOfCodes_eq, codeDigits, List.length_map, sixteen] at bound

theorem streamOfBytes_lt {p : List Byte} (whole : p.length = 22) : streamOfBytes p < 256 ^ 22 := by
  have bound := Nat.ofDigits_lt_base_pow_length (by decide) (byteDigits_lt p)
  rwa [← streamOfBytes_eq, List.length_map, whole] at bound

/-! PACK and UNPACK read off digits of the stream. -/

theorem pack_toNat (codes : List Int) : (pack codes).map BitVec.toNat = digitsOf 256 22 (streamOfCodes codes) := by
  simp [pack, digitsOf, pow_mul]

theorem unpack_eq (p : List Byte) : unpack p = (digitsOf 2048 16 (streamOfBytes p)).map Nat.cast := by
  simp [unpack, digitsOf, pow_mul]

theorem codeDigits_unpack (p : List Byte) : codeDigits (unpack p) = digitsOf 2048 16 (streamOfBytes p) := by
  rw [unpack_eq, codeDigits, List.map_map, digitsOf, List.map_map]
  refine List.map_congr_left fun k _ => ?_
  simp only [Function.comp_apply]
  omega

theorem unpack_getElem? (p : List Byte) (i : Fin 16) : (unpack p)[(i : Nat)]? = some ((streamOfBytes p / 2 ^ (11 * (i : Nat)) % 2048 : Nat) : Int) := by
  simp [unpack]

/-- The payload is the same stream as the codes. -/
theorem streamOfBytes_pack {codes : List Int} (sixteen : codes.length = 16) : streamOfBytes (pack codes) = streamOfCodes codes := by
  rw [streamOfBytes_eq, pack_toNat, ofDigits_digitsOf]
  exact Nat.mod_eq_of_lt (streamOfCodes_lt sixteen)

theorem streamOfCodes_unpack {p : List Byte} (whole : p.length = 22) : streamOfCodes (unpack p) = streamOfBytes p := by
  rw [streamOfCodes_eq, codeDigits_unpack, ofDigits_digitsOf]
  exact Nat.mod_eq_of_lt (streamOfBytes_lt whole)

/-- Code `i` stands in the stream at bit `11 i` (R104). -/
theorem streamOfCodes_div_pow_mod (codes : List Int) (i : Nat) : streamOfCodes codes / 2 ^ (11 * i) % 2048 = (codeDigits codes).getD i 0 := by
  rw [streamOfCodes_eq, pow_mul]
  exact ofDigits_div_pow_mod (by decide) (codeDigits_lt codes) i

theorem unpack_pack {codes : List Int} (sixteen : codes.length = 16) : unpack (pack codes) = codes.map (· % 2048) := by
  have digits := digitsOf_ofDigits (by decide) (codeDigits_lt codes)
  rw [codeDigits, List.length_map, sixteen, ← codeDigits, ← streamOfCodes_eq] at digits
  rw [unpack_eq, streamOfBytes_pack sixteen, digits, codeDigits, List.map_map]
  refine List.map_congr_left fun c _ => ?_
  exact Int.toNat_of_nonneg (Int.emod_nonneg c (by decide))

theorem pack_unpack {p : List Byte} (whole : p.length = 22) : pack (unpack p) = p := by
  have digits := digitsOf_ofDigits (by decide) (byteDigits_lt p)
  rw [List.length_map, whole, ← streamOfBytes_eq] at digits
  have bytes : (pack (unpack p)).map BitVec.toNat = p.map BitVec.toNat := by rw [pack_toNat, streamOfCodes_unpack whole, digits]
  exact List.map_injective_iff.mpr (fun _ _ => BitVec.eq_of_toNat_eq) bytes

theorem streamOfBytes_eq_sum {p : List Byte} (whole : p.length = 22) :
    streamOfBytes p = ∑ k ∈ Finset.range 22, (p.getD k 0).toNat * 2 ^ (8 * k) := by
  rw [streamOfBytes_eq, ofDigits_eq_sum, List.length_map, whole]
  refine Finset.sum_congr rfl fun k _ => ?_
  rw [pow_mul, show (0 : Nat) = (0 : Byte).toNat from rfl, List.getD_map]
  rfl

/-- Settles O32: the codes and the payload are the digits of one stream. -/
theorem packAndUnpackAreInverse : Obligations.PackAndUnpackAreInverse := by
  refine ⟨fun p i whole => ?_, fun _ => unpack_pack, fun _ => pack_unpack⟩
  rw [unpack_getElem?, streamOfBytes_eq_sum whole]

/-! Single bits. -/

/-- Bit `j` of payload byte `k` is bit `8 k + j` of the stream (20_memory.md R47). -/
theorem byteAt_pack_getLsbD (codes : List Int) {k j : Nat} (inside : k < 22) (bit : j < 8) :
    (byteAt (pack codes) k).getLsbD j = (streamOfCodes codes).testBit (8 * k + j) := by
  have byte : byteAt (pack codes) k = BitVec.ofNat 8 (streamOfCodes codes / 2 ^ (8 * k)) := by simp [byteAt, pack, inside]
  rw [byte, BitVec.getLsbD_ofNat, Nat.testBit_div_two_pow, add_comm j]
  simp [bit]

/-- Bit `b` of code `i` is bit `11 i + b` of the stream (R104). -/
theorem streamOfCodes_testBit (codes : List Int) (i : Nat) {b : Nat} (bit : b < 11) :
    (streamOfCodes codes).testBit (11 * i + b) = ((codeDigits codes).getD i 0).testBit b := by
  rw [← streamOfCodes_div_pow_mod, show 2048 = 2 ^ 11 from rfl, Nat.testBit_mod_two_pow, Nat.testBit_div_two_pow, add_comm b]
  simp [bit]

/-- A channel-store element modulo `2 ^ 11` is its low eleven bits. -/
theorem toInt_emod_testBit (c : Chan) {b : Nat} (bit : b < 11) : (c.toInt % 2048).toNat.testBit b = c.getLsbD b := by
  have low : (c.toInt % 2048).toNat = c.toNat % 2 ^ 11 := by
    rw [BitVec.toInt_eq_toNat_cond]
    split <;> omega
  rw [low, Nat.testBit_mod_two_pow]
  simp [bit, BitVec.getLsbD]

/-- Settles O33: both sides are the same bit of the stream. -/
theorem packLanes : Obligations.PackLanes := by
  intro codes i b
  have code : (codeDigits (codes.toList.map BitVec.toInt)).getD i 0 = ((codes[i]).toInt % 2048).toNat := by simp [codeDigits]
  have position : 8 * ((11 * (i : Nat) + b) / 8) + (11 * (i : Nat) + b) % 8 = 11 * i + b := Nat.div_add_mod _ _
  rw [byteAt_pack_getLsbD _ (by omega) (Nat.mod_lt _ (by decide)), position, streamOfCodes_testBit _ _ b.isLt, code]
  exact toInt_emod_testBit _ b.isLt

/-! The round trip of a channel (R106 to R108). -/

/-- UNPACK_CHANNELS reads each channel back from PACK_CHANNELS, clamped, whatever the others hold (R108). -/
theorem unpackChannels_packChannels (us : Vector Chan 16) (i : Fin 16) :
    ((unpackChannels (packChannels us))[i]).toInt = clamp (us[i]).toInt 1000 2000 := by
  have code : (unpack (packChannels us)).getD i 0 = us2code (us[i]).toInt := by
    obtain ⟨least, most⟩ := us2code_mem (us[i]).toInt
    have fits : us2code (us[i]).toInt % 2048 = us2code (us[i]).toInt := Int.emod_eq_of_lt (by omega) (by omega)
    rw [packChannels, unpack_pack (by simp)]
    simpa using fits
  rw [unpackChannels_toInt, code, us2code_clamp]
  exact code2us_us2code (le_clamp _ (by decide)) (clamp_le _ (by decide))

/-- Settles O31: PACK and UNPACK keep each code, which is less than `2 ^ 11`, and CODE2US reads the code of a clamped channel back. -/
theorem channelRoundTrip : Obligations.ChannelRoundTrip :=
  ⟨fun _ => code2us_us2code, unpackChannels_packChannels, us2code_code2us_iff, by decide⟩

end Sys2Proof
end

section
/-! PROOF. The range of the channel store (41_channel_codec.md R102): every operation but CH_SET writes decoded channels, mapped axes or values that passed
the ingress's check, or no channel at all. The writers of the store come first, then the operations of each agent. -/

namespace Sys2Proof.Machine

/-- A channel that is in range in the one state is in range in the other. -/
def RangeKept (s t : State) : Prop := ∀ j : Fin 16, inRange s.ch[j] → inRange t.ch[j]

theorem RangeKept.refl (s : State) : RangeKept s s := fun _ => id

theorem RangeKept.trans {s t u : State} (h : RangeKept s t) (g : RangeKept t u) : RangeKept s u := fun j => g j ∘ h j

theorem RangeKept.of_ch_eq {s t : State} (same : t.ch = s.ch) : RangeKept s t := by
  intro j
  rw [same]
  exact id

/-! What is written to the store. -/

theorem inRange_ofInt {v : Int} (least : 1000 ≤ v) (most : v ≤ 2000) : inRange (BitVec.ofInt 32 v) := by
  unfold inRange
  rw [BitVec.toInt_ofInt_eq_self] <;> omega

/-- JOY_MAP clamps (46_control_inputs.md R186). -/
theorem inRange_joyMap (v : Int) : inRange (BitVec.ofInt 32 (joyMap v)) := inRange_ofInt (le_clamp _ (by decide)) (clamp_le _ (by decide))

theorem inRange_of_inCommandRange {i us : Int} (checked : inCommandRange i us = true) : inRange (BitVec.ofInt 32 us) := by
  simp only [inCommandRange, Config.usMin, Config.usMax, Bool.and_eq_true, decide_eq_true_eq] at checked
  obtain ⟨⟨_, least⟩, most⟩ := checked
  exact inRange_ofInt least most

theorem inRange_unpackChannels (p : List Byte) (j : Fin 16) : inRange (unpackChannels p)[j] := by
  unfold inRange
  rw [unpackChannels_toInt]
  exact code2us_mem _

/-- An accepted RC frame writes decoded channels (43_dispatch.md R136). -/
theorem Ops.typedFrame_rc_inRange {p : List Byte} (enough : 22 ≤ p.length) (now : Time) (s : State) (j : Fin 16) :
    inRange (Ops.typedFrame .rc p now s).ch[j] := by
  have accepted : Ops.typedFrame .rc p now s = Ops.acceptRc p now s := if_neg (by simpa [Kind.need] using enough)
  rw [accepted, Ops.acceptRc_eq]
  exact inRange_unpackChannels _ j

theorem Ops.typedFrame_rangeKept (k : Kind) (p : List Byte) (now : Time) (s : State) : RangeKept s (Ops.typedFrame k p now s) := by
  rcases Ops.typedFrame_cases k p now s with ⟨_, e⟩ | ⟨enough, ⟨rfl, _⟩ | ⟨_, e⟩ | ⟨_, e⟩ | ⟨_, e⟩ | ⟨_, e⟩ | ⟨_, e⟩⟩
  case inr.inl => exact fun j _ => Ops.typedFrame_rc_inRange enough now s j
  all_goals
    rw [e]
    exact .of_ch_eq rfl

theorem Ops.chSet_rangeKept (k : Int) {us : Chan} (value : inRange us) (s : State) : RangeKept s (Ops.chSet k us s) := by
  rcases Ops.chSet_cases k us s with ⟨i, _, e⟩ | ⟨_, e⟩ <;> rw [e]
  · intro j before
    simp only [Fin.getElem_fin, Vector.getElem_set]
    split
    · exact value
    · exact before
  · exact .refl s

theorem Ops.joyAxis_rangeKept (axis : Byte) (a : BitVec 16) (s : State) : RangeKept s (Ops.joyAxis axis a s) := by
  rcases Ops.joyAxis_cases axis a s with ⟨k, v, _, _, e⟩ | e <;> rw [e]
  · exact Ops.chSet_rangeKept k (inRange_joyMap v) s
  · exact .refl s

theorem Ops.setChannel_rangeKept (i us : Int) (s : State) : RangeKept s (Ops.setChannel i us s) := by
  unfold Ops.setChannel
  split
  case isTrue checked => exact Ops.chSet_rangeKept i (inRange_of_inCommandRange checked) s
  case isFalse => exact .of_ch_eq rfl

/-! The RX engine's operations. -/

theorem Ops.rxb_rangeKept (b : Byte) (t : Time) (s : State) : RangeKept s (Ops.rxb b t s) := by
  rcases Ops.rxb_cases b t s with ⟨_, e⟩ | ⟨_, e⟩ <;> exact .of_ch_eq (by rw [e])

theorem Ops.dispatch_rangeKept (addr ty : Byte) (p : List Byte) (now : Time) (s : State) : RangeKept s (Ops.dispatch addr ty p now s) := by
  unfold Ops.dispatch
  rcases Ops.dispatchBy_cases Config.types addr ty p now s with ⟨_, e⟩ | ⟨_, _, e⟩ | ⟨k, _, _, e⟩ <;> rw [e]
  · exact .of_ch_eq rfl
  · exact .of_ch_eq rfl
  · exact Ops.typedFrame_rangeKept k p now s

theorem Ops.consumePass_rangeKept (now : Time) (s : State) : RangeKept s (Ops.consumePass now s).1 := by
  rcases Ops.consumePass_cases now s with ⟨_, e⟩ | ⟨_, e⟩ | ⟨_, _, e⟩ | ⟨L, _, e⟩ | ⟨_, _, e⟩ <;> rw [e]
  case inr.inr.inr.inl =>
    have labelled : RangeKept s (Ops.raise .frameOk s) := .of_ch_eq rfl
    exact (labelled.trans (Ops.dispatch_rangeKept _ _ _ now _)).trans (.of_ch_eq (Ops.shift_ch (L + 2) _))
  all_goals exact .of_ch_eq rfl

theorem Ops.consume_rangeKept (now : Time) (s : State) : RangeKept s (Ops.consume now s) :=
  Ops.consume_induction now (RangeKept s) (fun _ h => h.trans (Ops.consumePass_rangeKept now _)) s (.refl s)

theorem Ops.flushLoop_rangeKept (now : Time) (n : Nat) (s : State) : RangeKept s (Ops.flushLoop n now s) := by
  induction n generalizing s with
  | zero => exact .refl s
  | succ n ih =>
    unfold Ops.flushLoop
    split
    · have shifted : RangeKept s (Ops.shift 1 s) := .of_ch_eq rfl
      exact (shifted.trans (Ops.consume_rangeKept now _)).trans (ih _)
    · exact .refl s

theorem Ops.tmo_rangeKept (now : Time) (s : State) : RangeKept s (Ops.tmo now s) := by
  unfold Ops.tmo
  split
  · have labelled : RangeKept s (Ops.raise .truncated s) := .of_ch_eq rfl
    exact labelled.trans (Ops.flushLoop_rangeKept now _ _)
  · exact .refl s

theorem Ops.ldn_rangeKept (now : Time) (s : State) : RangeKept s (Ops.ldn now s) := by
  rcases Ops.ldn_cases now s with ⟨_, e⟩ | ⟨_, e⟩ <;> exact .of_ch_eq (by rw [e])

theorem Ops.readPhase_rangeKept (rx : List (Byte × Time)) (fin : ReadEnd) (s : State) : RangeKept s (Ops.readPhase rx fin s) := by
  have read : RangeKept s (rx.foldl (fun s q => Ops.rxb q.1 q.2 s) s) :=
    List.foldlRecOn rx _ (RangeKept.refl s) fun _ h _ _ => h.trans (Ops.rxb_rangeKept _ _ _)
  unfold Ops.readPhase
  split
  · exact read.trans (.of_ch_eq (Ops.raise_ch .transportReadErr _))
  · exact read

theorem Ops.step_rangeKept (rx : List (Byte × Time)) (fin : ReadEnd) (now : Time) (s : State) : RangeKept s (Ops.step rx fin now s) := by
  unfold Ops.step
  split
  · exact .refl s
  · have consumed := (Ops.readPhase_rangeKept rx fin s).trans (Ops.consume_rangeKept now _)
    exact (consumed.trans (Ops.tmo_rangeKept now _)).trans (Ops.ldn_rangeKept now _)

/-! The TX scheduler writes the store through control inputs alone. -/

theorem Ops.sendGate_ch (s : State) : (Ops.sendGate s).ch = s.ch := by
  rcases Ops.sendGate_cases s with ⟨_, _, _, e⟩ | ⟨_, _, _, e⟩ | ⟨_, e⟩ <;> rw [e]

theorem Ops.sendEmit_ch (s : State) : (Ops.sendEmit s).ch = s.ch := by
  rcases Ops.sendEmit_cases s with ⟨_, _, _, _, e⟩ | ⟨_, _, _, _, _, e⟩ | ⟨_, e⟩ <;> rw [e]

theorem Ops.send_ch (now : Time) (s : State) : (Ops.send now s).ch = s.ch := by simp [Ops.send, Ops.sendEmit_ch, Ops.sendGate_ch]

theorem Ops.tick_ch (now : Time) (s : State) : (Ops.tick now s).ch = s.ch := by
  rcases Ops.tick_cases now s with ⟨_, e⟩ | ⟨_, e⟩ <;> rw [e]
  exact Ops.send_ch now s

theorem Ops.perhaps_ch {f : State → State} (hf : ∀ s, (f s).ch = s.ch) (s : State) : (Ops.perhaps f s).ch = s.ch := by
  unfold Ops.perhaps
  split
  · exact hf _
  · rfl

/-- A control input that stores a value stores one in range. -/
def StoresInRange : Control → Prop
  | .chSet _ us => inRange us
  | _ => True

theorem Ops.applyControl_rangeKept (now : Time) {c : Control} (stored : StoresInRange c) (s : State) :
    RangeKept s (Ops.applyControl now c s) := by
  cases c with
  | chSet k us => exact Ops.chSet_rangeKept k stored s
  | setMode m => exact .of_ch_eq rfl
  | joyAxis axis a => exact Ops.joyAxis_rangeKept axis a s
  | forceSend => exact .of_ch_eq (Ops.send_ch now s)

theorem Ops.applyControls_rangeKept (now : Time) {cs : List Control} (stored : ∀ c ∈ cs, StoresInRange c) (s : State) :
    RangeKept s (Ops.applyControls now cs s) :=
  List.foldlRecOn cs _ (RangeKept.refl s) fun _ h c mem => h.trans (Ops.applyControl_rangeKept now (stored c mem) _)

theorem storesInRange_of_notChSet {cs : List Control} (noChSet : ∀ k us, Control.chSet k us ∉ cs) :
    ∀ c ∈ cs, StoresInRange c := by
  intro c mem
  cases c with
  | chSet k us => exact absurd mem (noChSet k us)
  | setMode | joyAxis | forceSend => exact trivial

/-- The ingress lets values in range through only (46_control_inputs.md R182). -/
theorem Ops.ingress_storesInRange (pairs : List (Int × Int)) : ∀ c ∈ Ops.ingress pairs, StoresInRange c := by
  induction pairs with
  | nil => exact fun _ mem => absurd mem List.not_mem_nil
  | cons q qs ih =>
    unfold Ops.ingress
    split
    case isTrue checked => exact List.forall_mem_cons.mpr ⟨inRange_of_inCommandRange checked, ih⟩
    case isFalse => exact ih

theorem Ops.schedIter_rangeKept {inputs : List Control} (stored : ∀ c ∈ inputs, StoresInRange c) (now : Time) (s : State) :
    RangeKept s (Ops.schedIter inputs now s) := by
  unfold Ops.schedIter
  split
  · exact .refl s
  · exact (Ops.applyControls_rangeKept now stored s).trans (.of_ch_eq (Ops.tick_ch now _))

/-! Every operation. -/

theorem Ops.whenRunning_rangeKept {s s' : State} (h : RangeKept s s') : RangeKept s (Ops.whenRunning s s') :=
  Ops.whenRunning_induction (.refl s) h

/-- An operation that writes no channel, in a running block or a stopped one. -/
theorem Ops.whenRunning_rangeKept_of_ch_eq {s s' : State} (same : s'.ch = s.ch) : RangeKept s (Ops.whenRunning s s') :=
  Ops.whenRunning_rangeKept (.of_ch_eq same)

theorem exec_rangeKept {i : Instr} {s t : State} (notChSet : ∀ k us, i ≠ .chSet k us)
    (noInput : ∀ inputs now, i = .schedIter inputs now → ∀ k us, Control.chSet k us ∉ inputs) (h : exec i s = .next t) : RangeKept s t := by
  cases i with
  | rc | gps | batt | linkstat | att | fmode => exact kept_of_next (Ops.whenRunning_rangeKept (Ops.typedFrame_rangeKept _ _ _ s)) h
  | dispatch addr ty p now => exact kept_of_next (Ops.whenRunning_rangeKept (Ops.dispatch_rangeKept addr ty p now s)) h
  | rxb b t => exact kept_of_next (Ops.whenRunning_rangeKept (Ops.rxb_rangeKept b t s)) h
  | consume now => exact kept_of_next (Ops.whenRunning_rangeKept (Ops.consume_rangeKept now s)) h
  | waitHdr | resync | waitBody | crcBad =>
    rw [exec_caseRow_next (now := 0) (by simp) h]
    exact Ops.whenRunning_rangeKept (Ops.consumePass_rangeKept 0 s)
  | crcOk now =>
    rw [exec_caseRow_next (now := now) (by simp) h]
    exact Ops.whenRunning_rangeKept (Ops.consumePass_rangeKept now s)
  | tmo now => exact kept_of_next (Ops.whenRunning_rangeKept (Ops.tmo_rangeKept now s)) h
  | ldn now => exact kept_of_next (Ops.whenRunning_rangeKept (Ops.ldn_rangeKept now s)) h
  | step rx fin now => exact kept_of_next (Ops.step_rangeKept rx fin now s) h
  | crc8 | frameCheck | frameEncode | code2usRaw | code2us | us2code | pack | unpack | packChannels | unpackChannels | attDegrees
  | chGet | chSnapshot => exact kept_of_next (.of_ch_eq (Ops.answer_ch _ s)) h
  | shortPayload | unknown | foreignAddr => exact kept_of_next (Ops.whenRunning_rangeKept_of_ch_eq (Ops.raise_ch _ s)) h
  | txRc | sendBuild => exact kept_of_next (Ops.whenRunning_rangeKept_of_ch_eq (Ops.sendBuild_ch s)) h
  | tick now => exact kept_of_next (Ops.whenRunning_rangeKept_of_ch_eq (Ops.tick_ch now s)) h
  | send now | forceSend now | sendChannels now => exact kept_of_next (Ops.whenRunning_rangeKept_of_ch_eq (Ops.send_ch now s)) h
  | setMode m | setModeText m => exact kept_of_next (Ops.whenRunning_rangeKept_of_ch_eq (Ops.setMode_ch m s)) h
  | setIgnoreTel v => exact kept_of_next (Ops.whenRunning_rangeKept_of_ch_eq (Ops.setIgnoreTel_ch v s)) h
  | stop => exact kept_of_next (.of_ch_eq (Ops.stop_ch s)) h
  | sendGate =>
    rw [exec_sendGate_next h]
    split
    · exact .of_ch_eq (Ops.perhaps_ch Ops.sendGate_ch s)
    · exact .of_ch_eq (Ops.sendGate_ch s)
  | sendEmit =>
    rw [exec_sendEmit_next h]
    split
    · exact .of_ch_eq (Ops.perhaps_ch Ops.sendEmit_ch s)
    · exact .of_ch_eq (Ops.sendEmit_ch s)
  | chSet k us => exact absurd rfl (notChSet k us)
  | schedIter inputs now =>
    exact kept_of_next (Ops.schedIter_rangeKept (storesInRange_of_notChSet (noInput inputs now rfl)) now s) h
  | joyAxis axis a => exact kept_of_next (Ops.whenRunning_rangeKept (Ops.joyAxis_rangeKept axis a s)) h
  | setChannel k us => exact kept_of_next (Ops.whenRunning_rangeKept (Ops.setChannel_rangeKept k us s)) h
  | setChannels pairs =>
    exact kept_of_next (Ops.whenRunning_rangeKept (Ops.applyControls_rangeKept 0 (Ops.ingress_storesInRange pairs) s)) h

/-- An RC frame that a running block accepts leaves every channel in range (43_dispatch.md R136). -/
theorem exec_rc_inRange {p : List Byte} {now : Time} {s t : State} (enough : 22 ≤ p.length) (running : s.running)
    (h : exec (.rc p now) s = .next t) (j : Fin 16) : inRange t.ch[j] := by
  change (.next (Ops.whenRunning s (Ops.typedFrame .rc p now s)) : Answer) = .next t at h
  rw [Ops.whenRunning_run _ _ running] at h
  cases h
  exact Ops.typedFrame_rc_inRange enough now s j

/-- Settles O29: CODE2US clamps, and of all that writes the store only CH_SET takes a value as it comes. -/
theorem onlyChSetLeavesTheRange : Obligations.OnlyChSetLeavesTheRange :=
  ⟨fun code => code2us_mem code.toNat, fun _ _ _ _ enough running h => exec_rc_inRange enough running h,
    fun _ _ _ j notChSet noInput h => exec_rangeKept notChSet noInput h j⟩

end Sys2Proof.Machine
end

section
/-! PROOF. RXB and CONSUME (42_link_engine.md R116 to R122): what one pass does by the candidate at the front of the buffer, how CONSUME follows from its
first pass, and where it ends. -/

namespace Sys2Proof

/-! The verdict on a candidate of valid length, with its length byte and CRC read as the statements read them (40_frame_codec.md R92). -/
theorem frameCheck_of_crc {buf : List Byte} {L : Nat} (len : L = (buf.getD 1 0).toNat) (least : 3 ≤ L) (most : L ≤ 62)
    (complete : L + 2 ≤ buf.length) (crc : crc8 ((buf.drop 2).take (L - 1)) = buf.getD (L + 1) 0) : frameCheck buf = .crcOk L := by
  rw [frameCheck_of_complete len.symm least most complete]
  exact if_pos crc

theorem frameCheck_of_wrongCrc {buf : List Byte} {L : Nat} (len : L = (buf.getD 1 0).toNat) (least : 3 ≤ L) (most : L ≤ 62)
    (complete : L + 2 ≤ buf.length) (crc : crc8 ((buf.drop 2).take (L - 1)) ≠ buf.getD (L + 1) 0) : frameCheck buf = .crcBad L := by
  rw [frameCheck_of_complete len.symm least most complete]
  exact if_neg crc

theorem frameCheck_of_partial {buf : List Byte} {L : Nat} (len : L = (buf.getD 1 0).toNat) (header : 2 ≤ buf.length) (least : 3 ≤ L)
    (most : L ≤ 62) (partly : buf.length < L + 2) : frameCheck buf = .waitBody L := by
  rw [frameCheck_of_legal header len.symm least most, if_pos partly]

end Sys2Proof

namespace Sys2Proof.Machine

/-! Operations of the RX engine in a running block. -/

theorem exec_rxb {s : State} (running : s.running) (b : Byte) (t : Time) : exec (.rxb b t) s = .next (Ops.rxb b t s) :=
  next_whenRunning running _

theorem exec_consume {s : State} (running : s.running) (now : Time) : exec (.consume now) s = .next (Ops.consume now s) :=
  next_whenRunning running _

theorem exec_dispatch {s : State} (running : s.running) (addr ty : Byte) (p : List Byte) (now : Time) :
    exec (.dispatch addr ty p now) s = .next (Ops.dispatch addr ty p now s) :=
  next_whenRunning running _

/-- An operation of the RX engine does not stop the block (00_scope.md R5). -/
theorem sendSideKept.running {s t : State} (kept : sendSideKept s t) (running : s.running) : t.running := by
  obtain ⟨-, -, -, -, stopped, -⟩ := kept
  exact stopped.trans running

/-- Settles O35: the two cases of RXB. -/
theorem receivedByteIsStampedAndKept : Obligations.ReceivedByteIsStampedAndKept := by
  intro b t s running
  rw [exec_rxb running]
  rcases Ops.rxb_cases b t s with ⟨full, e⟩ | ⟨room, e⟩ <;> rw [e]
  · exact ⟨fun _ => rfl, fun room => absurd full room⟩
  · exact ⟨fun full => absurd full room, fun _ => rfl⟩

/-! One pass, by the verdict on the front candidate. -/

theorem Ops.dispatch_rxBuf (addr ty : Byte) (p : List Byte) (now : Time) (s : State) : (Ops.dispatch addr ty p now s).rxBuf = s.rxBuf := by
  obtain ⟨_, _, _, _, _, _, _, _, _, e⟩ := Ops.dispatch_frame addr ty p now s
  rw [e]

theorem Ops.dispatch_lastReceiveMs (addr ty : Byte) (p : List Byte) (now : Time) (s : State) :
    (Ops.dispatch addr ty p now s).lastReceiveMs = s.lastReceiveMs := by
  obtain ⟨_, _, _, _, _, _, _, _, _, e⟩ := Ops.dispatch_frame addr ty p now s
  rw [e]

theorem Ops.consumePass_waitHdr {s : State} (verdict : frameCheck s.rxBuf = .waitHdr) (now : Time) : Ops.consumePass now s = (s, false) := by
  simp [Ops.consumePass, verdict]

theorem Ops.consumePass_waitBody {s : State} {L : Nat} (verdict : frameCheck s.rxBuf = .waitBody L) (now : Time) :
    Ops.consumePass now s = (s, false) := by
  simp [Ops.consumePass, verdict]

theorem Ops.consumePass_resync {s : State} (verdict : frameCheck s.rxBuf = .resync) (now : Time) :
    Ops.consumePass now s = ({ s with rxBuf := s.rxBuf.drop 1, events := s.events ++ [.lenRange] }, true) := by
  simp [Ops.consumePass, verdict, Ops.resync, Ops.shift, Ops.raise]

theorem Ops.consumePass_crcBad {s : State} {L : Nat} (verdict : frameCheck s.rxBuf = .crcBad L) (now : Time) :
    Ops.consumePass now s = ({ s with rxBuf := s.rxBuf.drop (L + 2), events := s.events ++ [.crcMismatch] }, true) := by
  simp [Ops.consumePass, verdict, Ops.crcBad, Ops.shift, Ops.raise]

/-- An accepted frame is dispatched while it stands in the buffer, then dropped (R121). -/
theorem Ops.consumePass_crcOk {s : State} {L : Nat} (verdict : frameCheck s.rxBuf = .crcOk L) (now : Time) :
    Ops.consumePass now s =
      ({ Ops.dispatch (byteAt s.rxBuf 0) (byteAt s.rxBuf 2) (framePayload s.rxBuf L) now (Ops.raise .frameOk s) with
          rxBuf := s.rxBuf.drop (L + 2) }, true) := by
  simp [Ops.consumePass, verdict, Ops.crcOk, Ops.shift, Ops.dispatch_rxBuf]

/-- A pass that does not go on changes nothing (R118, R120). -/
theorem Ops.consumePass_of_ends {now : Time} {s : State} (ends : (Ops.consumePass now s).2 = false) :
    (Ops.consumePass now s).1 = s ∧ (frameCheck s.rxBuf = .waitHdr ∨ ∃ L, frameCheck s.rxBuf = .waitBody L) := by
  rcases Ops.consumePass_cases now s with ⟨v, e⟩ | ⟨_, e⟩ | ⟨L, v, e⟩ | ⟨_, _, e⟩ | ⟨_, _, e⟩ <;> rw [e] at ends ⊢
  · exact ⟨rfl, .inl v⟩
  · cases ends
  · exact ⟨rfl, .inr ⟨L, v⟩⟩
  · cases ends
  · cases ends

/-! The case rows. -/

/-- A case row whose step is the pass answers what the pass leaves. -/
theorem exec_of_stepIsOperation {i : Instr} {now : Time} {next : List Task} {s u : State} {goesOn : Bool}
    (row : stepIsOperation (.consume now) i next s) (pass : Ops.consumePass now s = (u, goesOn)) : exec i s = .next u := by
  obtain ⟨answers, -⟩ := row
  rw [answers, Agents.runTask_consume, pass]

/-- Settles O38: each row is the pass of its verdict. -/
theorem caseRowsTakeOnePass : Obligations.CaseRowsTakeOnePass := by
  intro now s L running len
  obtain ⟨waitHdr, resync, waitBody, crcOk, crcBad⟩ := consumePass_isItsRow running now
  refine ⟨fun short => ?_, fun header illegal => ?_, fun header least most partly => ?_, fun least most complete crc => ?_,
    fun least most complete crc => ?_⟩
  · have verdict := frameCheck_of_short short
    exact exec_of_stepIsOperation (waitHdr verdict) (Ops.consumePass_waitHdr verdict now)
  · have verdict := frameCheck_of_illegal header (len ▸ illegal)
    exact exec_of_stepIsOperation (resync verdict) (Ops.consumePass_resync verdict now)
  · have verdict := frameCheck_of_partial len header least most partly
    exact exec_of_stepIsOperation (waitBody L verdict) (Ops.consumePass_waitBody verdict now)
  · have verdict := frameCheck_of_wrongCrc len least most complete crc
    exact exec_of_stepIsOperation (crcBad L verdict) (Ops.consumePass_crcBad verdict now)
  · have verdict := frameCheck_of_crc len least most complete crc
    exact ⟨_, exec_dispatch (s := Ops.raise .frameOk s) running _ _ _ now, exec_of_stepIsOperation (crcOk L verdict) (Ops.consumePass_crcOk verdict now)⟩

/-! CONSUME from its first pass. -/

theorem Ops.consume_of_waits {now : Time} {s : State} (pass : Ops.consumePass now s = (s, false)) : Ops.consume now s = s := by
  rw [Ops.consume_unfold, pass]
  rfl

theorem exec_consume_of_waits {now : Time} {s : State} (running : s.running) (pass : Ops.consumePass now s = (s, false)) :
    exec (.consume now) s = .next s := by
  rw [exec_consume running, Ops.consume_of_waits pass]

/-- After a pass that goes on, CONSUME does what it does in the state that the pass left (R117). -/
theorem exec_consume_of_goesOn {now : Time} {s u : State} (running : s.running) (pass : Ops.consumePass now s = (u, true)) :
    exec (.consume now) s = exec (.consume now) u := by
  have kept := Ops.consumePass_sendSideKept now s
  rw [pass] at kept
  rw [exec_consume running, exec_consume (kept.running running), Ops.consume_unfold now s, pass]
  rfl

/-- Settles O36: CONSUME from the pass that the front candidate selects. -/
theorem consumeActsOnTheFrontCandidate : Obligations.ConsumeActsOnTheFrontCandidate := by
  intro now s L running len
  refine ⟨fun short => ?_, fun header illegal => ?_, fun header least most partly => ?_, fun least most complete crc => ?_,
    fun least most complete crc => ?_⟩
  · exact exec_consume_of_waits running (Ops.consumePass_waitHdr (frameCheck_of_short short) now)
  · exact exec_consume_of_goesOn running (Ops.consumePass_resync (frameCheck_of_illegal header (len ▸ illegal)) now)
  · exact exec_consume_of_waits running (Ops.consumePass_waitBody (frameCheck_of_partial len header least most partly) now)
  · exact exec_consume_of_goesOn running (Ops.consumePass_crcBad (frameCheck_of_wrongCrc len least most complete crc) now)
  · have verdict := frameCheck_of_crc len least most complete crc
    exact ⟨_, exec_dispatch (s := Ops.raise .frameOk s) running _ _ _ now, exec_consume_of_goesOn running (Ops.consumePass_crcOk verdict now)⟩

/-! Where CONSUME ends. -/

/-- CONSUME ends in front of no candidate or of an incomplete one: every pass that goes on is followed by another (R117). -/
theorem Ops.consume_waits (now : Time) (s : State) :
    frameCheck (Ops.consume now s).rxBuf = .waitHdr ∨ ∃ L, frameCheck (Ops.consume now s).rxBuf = .waitBody L := by
  induction bytes : s.rxLen using Nat.strong_induction_on generalizing s with
  | _ n ih =>
    subst bytes
    rw [Ops.consume_unfold]
    split
    case isTrue goesOn => exact ih _ (Ops.consumePass_shorter now s goesOn) _ rfl
    case isFalse ends =>
      obtain ⟨same, waits⟩ := Ops.consumePass_of_ends (Bool.eq_false_of_not_eq_true ends)
      rwa [same]

/-- What is left is shorter than the longest frame (10_state.md R30). -/
theorem Ops.consume_rxLen_le_63 (now : Time) (s : State) : (Ops.consume now s).rxLen ≤ 63 := by
  unfold State.rxLen
  rcases Ops.consume_waits now s with v | ⟨L, v⟩
  · have short := frameCheck_waitHdr v
    omega
  · obtain ⟨-, -, -, most, partly⟩ := frameCheck_waitBody v
    omega

theorem Ops.consume_suffix (now : Time) (s : State) : (Ops.consume now s).rxBuf <:+ s.rxBuf := by
  refine Ops.consume_induction now (fun t => t.rxBuf <:+ s.rxBuf) (fun t rear => ?_) s (List.suffix_refl _)
  rw [Ops.consumePass_rxBuf]
  cases frameCheck t.rxBuf with
  | waitHdr | waitBody => exact rear
  | resync | crcOk | crcBad => exact (List.drop_suffix _ _).trans rear

theorem Ops.consumePass_lastReceiveMs (now : Time) (s : State) : (Ops.consumePass now s).1.lastReceiveMs = s.lastReceiveMs := by
  rcases Ops.consumePass_cases now s with ⟨_, e⟩ | ⟨_, e⟩ | ⟨_, _, e⟩ | ⟨_, _, e⟩ | ⟨_, _, e⟩ <;> rw [e]
  case inr.inr.inr.inl => exact Ops.dispatch_lastReceiveMs _ _ _ now _
  all_goals rfl

theorem Ops.consume_lastReceiveMs (now : Time) (s : State) : (Ops.consume now s).lastReceiveMs = s.lastReceiveMs :=
  Ops.consume_induction now (fun t => t.lastReceiveMs = s.lastReceiveMs) (fun t same => (Ops.consumePass_lastReceiveMs now t).trans same) s rfl

/-- Settles O37: the verdict at the end of CONSUME, and what no pass changes. -/
theorem consumeEndsAtAnIncompleteCandidate : Obligations.ConsumeEndsAtAnIncompleteCandidate := by
  intro now s running
  refine ⟨Ops.consume now s, exec_consume running now, ?_, Ops.consume_rxLen_le_63 now s, Ops.consume_suffix now s,
    Ops.consume_lastReceiveMs now s, Ops.consume_sendSideKept now s⟩
  rcases Ops.consume_waits now s with v | ⟨L, v⟩
  · exact .inl (frameCheck_waitHdr v)
  · obtain ⟨-, rfl, least, most, partly⟩ := frameCheck_waitBody v
    exact .inr ⟨least, most, partly⟩

end Sys2Proof.Machine
end

section
/-! PROOF. The timers and STEP (42_link_engine.md R123, R125 to R128): TMO flushes to an empty buffer, LDN lowers the link, STEP is its phases in order. -/

namespace Sys2Proof.Machine

/-! Operations of the RX engine in a running block. -/

theorem exec_tmo {s : State} (running : s.running) (now : Time) : exec (.tmo now) s = .next (Ops.tmo now s) := next_whenRunning running _

theorem exec_ldn {s : State} (running : s.running) (now : Time) : exec (.ldn now) s = .next (Ops.ldn now s) := next_whenRunning running _

theorem exec_step (rx : List (Byte × Time)) (fin : ReadEnd) (now : Time) (s : State) :
    exec (.step rx fin now) s = .next (Ops.step rx fin now s) := rfl

theorem Ops.step_running (rx : List (Byte × Time)) (fin : ReadEnd) (now : Time) {s : State} (running : s.running) :
    Ops.step rx fin now s = Ops.ldn now (Ops.tmo now (Ops.consume now (Ops.readPhase rx fin s))) :=
  if_neg (ne_true_of_eq_false running)

/-! LDN. -/

theorem linkTimedOut_iff (s : State) (now : Time) :
    linkTimedOut s now = true ↔ s.linkUp = true ∧ 120000 < (now - s.lastReceiveMs).toNat := by
  rw [linkTimedOut, Bool.and_eq_true, decide_eq_true_iff]
  rfl

theorem Ops.ldn_late {now : Time} {s : State} (up : s.linkUp = true) (late : 120000 < (now - s.lastReceiveMs).toNat) :
    Ops.ldn now s = { s with linkUp := false, events := s.events ++ [.onLinkDown] } :=
  if_pos ((linkTimedOut_iff s now).mpr ⟨up, late⟩)

theorem Ops.ldn_idle {now : Time} {s : State} (idle : s.linkUp = false ∨ (now - s.lastReceiveMs).toNat ≤ 120000) : Ops.ldn now s = s := by
  refine if_neg fun timedOut => ?_
  obtain ⟨up, late⟩ := (linkTimedOut_iff s now).mp timedOut
  rcases idle with down | early
  · exact Bool.false_ne_true (down.symm.trans up)
  · omega

/-- Settles O40: the two cases of LDN. -/
theorem silenceLowersTheLink : Obligations.SilenceLowersTheLink := by
  intro now s running
  rw [exec_ldn running]
  exact ⟨fun up late => congrArg _ (Ops.ldn_late up late), fun idle => congrArg _ (Ops.ldn_idle idle)⟩

/-! TMO. -/

theorem Ops.tmo_late {now : Time} {s : State} (bytes : 0 < s.rxLen) (late : 100 < (now - s.lastReceiveMs).toNat) :
    Ops.tmo now s = Ops.flushLoop s.rxLen now (Ops.raise .truncated s) :=
  if_pos ((packetTimedOut_iff s now).mpr ⟨bytes, late⟩)

theorem Ops.tmo_idle {now : Time} {s : State} (idle : s.rxLen = 0 ∨ (now - s.lastReceiveMs).toNat ≤ 100) : Ops.tmo now s = s :=
  if_neg (by rw [packetTimedOut_iff]; omega)

/-- The rounds of TMO's loop are the flush: each drops the oldest byte and runs CONSUME, until no byte is left (R123). -/
theorem Ops.flushLoop_flushed (now : Time) {s : State} (running : s.running) : Flushed now s (Ops.flushLoop s.rxLen now s) := by
  induction bytes : s.rxLen using Nat.strong_induction_on generalizing s with
  | _ n ih =>
    subst bytes
    rw [Ops.flush_unfold]
    split
    case isTrue bytesLeft =>
      have shifted : (Ops.shift 1 s).rxLen = s.rxLen - 1 := List.length_drop
      have consumed := Ops.consume_rxLen_le now (Ops.shift 1 s)
      have stillRunning := (Ops.consume_sendSideKept now (Ops.shift 1 s)).running running
      exact .round s _ _ (List.ne_nil_of_length_pos bytesLeft) (exec_consume (s := Ops.shift 1 s) running now) (ih _ (by omega) stillRunning rfl)
    case isFalse noBytes => exact .empty s (List.eq_nil_of_length_eq_zero (Nat.eq_zero_of_not_pos noBytes))

theorem Flushed.rxBuf_eq_nil {now : Time} {s t : State} (flushed : Flushed now s t) : t.rxBuf = [] := by
  induction flushed with
  | empty _ noBytes => exact noBytes
  | round _ _ _ _ _ _ noBytes => exact noBytes

theorem Ops.flushLoop_lastReceiveMs (now : Time) (n : Nat) (s : State) : (Ops.flushLoop n now s).lastReceiveMs = s.lastReceiveMs := by
  induction n generalizing s with
  | zero => rfl
  | succ n ih =>
    unfold Ops.flushLoop
    split
    · rw [ih, Ops.consume_lastReceiveMs]
      rfl
    · rfl

theorem Ops.flushLoop_events (now : Time) (n : Nat) (s : State) : s.events <+: (Ops.flushLoop n now s).events :=
  (Ops.flushLoop_updates now n s).stickyKept.events

/-- Settles O39: the flush of the loop, and what no round of it changes. -/
theorem stalledBufferIsFlushed : Obligations.StalledBufferIsFlushed := by
  intro now s running
  rw [exec_tmo running]
  refine ⟨fun bytes late => ?_, fun idle => congrArg _ (Ops.tmo_idle idle)⟩
  have flushed := Ops.flushLoop_flushed now (s := Ops.raise .truncated s) running
  rw [Ops.tmo_late bytes late]
  exact ⟨_, rfl, flushed, flushed.rxBuf_eq_nil, Ops.flushLoop_events now _ (Ops.raise .truncated s),
    Ops.flushLoop_lastReceiveMs now _ _,
    sendSideKept_trans (Ops.raise_sendSideKept .truncated s) (Ops.flushLoop_sendSideKept now _ _)⟩

/-! STEP. -/

theorem execAll_cons {i : Instr} {s t : State} (h : exec i s = .next t) (is : List Instr) : execAll (i :: is) s = execAll is t := by
  rw [execAll, h]

/-- The bytes of the read phase, one RXB after another (R126). -/
theorem execAll_rxb (rx : List (Byte × Time)) {s : State} (running : s.running) :
    execAll (rx.map fun q => .rxb q.1 q.2) s = .next (rx.foldl (fun s q => Ops.rxb q.1 q.2 s) s) := by
  induction rx generalizing s with
  | nil => rfl
  | cons q rx ih =>
    rw [List.map_cons, execAll_cons (exec_rxb running q.1 q.2)]
    exact ih ((Ops.rxb_sendSideKept q.1 q.2 s).running running)

theorem execAll_afterRead (now : Time) {s : State} (running : s.running) :
    execAll [.consume now, .tmo now, .ldn now] s = .next (Ops.ldn now (Ops.tmo now (Ops.consume now s))) := by
  have consumed := (Ops.consume_sendSideKept now s).running running
  have flushed := (Ops.tmo_sendSideKept now _).running consumed
  rw [execAll_cons (exec_consume running now), execAll_cons (exec_tmo consumed now), execAll_cons (exec_ldn flushed now), execAll]

/-- Settles O41: each phase is its operation, in a block that runs on. -/
theorem stepIsItsPhases : Obligations.StepIsItsPhases := by
  intro rx fin now s
  rw [exec_step]
  refine ⟨fun halted => congrArg _ (Ops.step_stopped rx fin now halted), fun running => ?_⟩
  refine ⟨_, _, execAll_rxb rx running, rfl, ?_⟩
  rw [Ops.step_running rx fin now running]
  exact execAll_afterRead now ((Ops.readPhase_sendSideKept rx fin s).running running)

end Sys2Proof.Machine
end

section
/-! PROOF. The RX engine does not read the history (10_state.md R27): an operation on a block with a longer past does the same and appends the same entries.
So a read error, whose only trace is its label, acts like "no data" (42_link_engine.md R128). -/

namespace Sys2Proof.Machine

/-- The state with a past before its history. -/
def State.withPast (past : List Event) (s : State) : State := { s with events := past ++ s.events }

@[simp] theorem State.withPast_rxBuf (past : List Event) (s : State) : (s.withPast past).rxBuf = s.rxBuf := rfl

theorem Ops.raise_withPast (e : Event) (past : List Event) (s : State) :
    Ops.raise e (s.withPast past) = (Ops.raise e s).withPast past := by
  simp [Ops.raise, State.withPast]

theorem Ops.typedFrame_withPast (k : Kind) (p : List Byte) (now : Time) (past : List Event) (s : State) :
    Ops.typedFrame k p now (s.withPast past) = (Ops.typedFrame k p now s).withPast past := by
  unfold Ops.typedFrame
  split
  · exact Ops.raise_withPast _ past s
  · cases k with
    | rc => simp [Ops.acceptRc_eq, State.withPast]
    | gps | batt | linkstat | att | fmode => rfl

theorem Ops.dispatch_withPast (addr ty : Byte) (p : List Byte) (now : Time) (past : List Event) (s : State) :
    Ops.dispatch addr ty p now (s.withPast past) = (Ops.dispatch addr ty p now s).withPast past := by
  unfold Ops.dispatch Ops.dispatchBy
  split
  · exact Ops.raise_withPast _ past s
  · split
    · exact Ops.typedFrame_withPast _ p now past s
    · exact Ops.raise_withPast _ past s

theorem Ops.resync_withPast (past : List Event) (s : State) : Ops.resync (s.withPast past) = (Ops.resync s).withPast past :=
  congrArg (Ops.shift 1) (Ops.raise_withPast .lenRange past s)

theorem Ops.crcBad_withPast (L : Nat) (past : List Event) (s : State) : Ops.crcBad L (s.withPast past) = (Ops.crcBad L s).withPast past :=
  congrArg (Ops.shift (L + 2)) (Ops.raise_withPast .crcMismatch past s)

theorem Ops.crcOk_withPast (L : Nat) (now : Time) (past : List Event) (s : State) :
    Ops.crcOk L now (s.withPast past) = (Ops.crcOk L now s).withPast past := by
  unfold Ops.crcOk
  rw [Ops.raise_withPast, Ops.dispatch_withPast]
  rfl

theorem Ops.consumePass_withPast (now : Time) (past : List Event) (s : State) :
    Ops.consumePass now (s.withPast past) = ((Ops.consumePass now s).1.withPast past, (Ops.consumePass now s).2) := by
  simp only [Ops.consumePass, State.withPast_rxBuf]
  cases frameCheck s.rxBuf with
  | waitHdr | waitBody => rfl
  | resync => exact congrArg (·, true) (Ops.resync_withPast past s)
  | crcOk L => exact congrArg (·, true) (Ops.crcOk_withPast L now past s)
  | crcBad L => exact congrArg (·, true) (Ops.crcBad_withPast L past s)

theorem Ops.consume_withPast (now : Time) (past : List Event) (s : State) :
    Ops.consume now (s.withPast past) = (Ops.consume now s).withPast past := by
  induction bytes : s.rxLen using Nat.strong_induction_on generalizing s with
  | _ n ih =>
    subst bytes
    rw [Ops.consume_unfold now s, Ops.consume_unfold, Ops.consumePass_withPast]
    split
    case isTrue goesOn => exact ih _ (Ops.consumePass_shorter now s goesOn) _ rfl
    case isFalse => rfl

theorem Ops.flushLoop_withPast (now : Time) (past : List Event) (n : Nat) (s : State) :
    Ops.flushLoop n now (s.withPast past) = (Ops.flushLoop n now s).withPast past := by
  induction n generalizing s with
  | zero => rfl
  | succ n ih =>
    have round : Ops.consume now (Ops.shift 1 (s.withPast past)) = (Ops.consume now (Ops.shift 1 s)).withPast past :=
      Ops.consume_withPast now past (Ops.shift 1 s)
    rw [Ops.flushLoop, Ops.flushLoop, round, ih, apply_ite (State.withPast past)]
    rfl

theorem Ops.tmo_withPast (now : Time) (past : List Event) (s : State) : Ops.tmo now (s.withPast past) = (Ops.tmo now s).withPast past := by
  rw [Ops.tmo, Ops.raise_withPast, Ops.flushLoop_withPast, Ops.tmo, apply_ite (State.withPast past)]
  rfl

theorem Ops.ldn_withPast (now : Time) (past : List Event) (s : State) : Ops.ldn now (s.withPast past) = (Ops.ldn now s).withPast past := by
  rw [Ops.ldn, Ops.raise_withPast, Ops.ldn, apply_ite (State.withPast past)]
  rfl

/-- What STEP does after its read phase, whatever the past (R126). -/
theorem Ops.afterRead_withPast (now : Time) (past : List Event) (s : State) :
    Ops.ldn now (Ops.tmo now (Ops.consume now (s.withPast past))) = (Ops.ldn now (Ops.tmo now (Ops.consume now s))).withPast past := by
  rw [Ops.consume_withPast, Ops.tmo_withPast, Ops.ldn_withPast]

/-! A read error. -/

/-- The two states agree but for the history, and their histories hold the same strobes: only these are outputs (60_exceptions.md R201). -/
def SameOutputs (s t : State) : Prop :=
  { s with events := [] } = { t with events := [] } ∧ s.events.filter Event.strobe = t.events.filter Event.strobe

theorem SameOutputs.refl (s : State) : SameOutputs s s := ⟨rfl, rfl⟩

theorem SameOutputs.of_past {past past' : List Event} (strobes : past.filter Event.strobe = past'.filter Event.strobe) (s : State) :
    SameOutputs (s.withPast past) (s.withPast past') := by
  refine ⟨rfl, ?_⟩
  simp only [State.withPast, List.filter_append, strobes]

/-- What follows the read phase has the same outputs with a label in the history and without it. -/
theorem Ops.afterRead_label (now : Time) {e : Event} (label : e.strobe = false) (s : State) :
    SameOutputs (Ops.ldn now (Ops.tmo now (Ops.consume now (Ops.raise e s)))) (Ops.ldn now (Ops.tmo now (Ops.consume now s))) := by
  have labelled : Ops.raise e s = State.withPast (s.events ++ [e]) { s with events := [] } := by simp [State.withPast, Ops.raise]
  have plain : s = State.withPast s.events { s with events := [] } := by simp [State.withPast]
  have same := SameOutputs.of_past (past := s.events ++ [e]) (past' := s.events) (by simp [label])
    (Ops.ldn now (Ops.tmo now (Ops.consume now { s with events := [] })))
  rwa [← Ops.afterRead_withPast, ← Ops.afterRead_withPast, ← labelled, ← plain] at same

/-- A read error is the end of the read phase with its label (R128). -/
theorem Ops.readPhase_error (rx : List (Byte × Time)) (s : State) :
    Ops.readPhase rx .error s = Ops.raise .transportReadErr (Ops.readPhase rx .nodata s) := by
  simp [Ops.readPhase]

/-- Settles O43: the label of the read error is all that the read phases differ in. -/
theorem readErrorActsLikeNoData : Obligations.ReadErrorActsLikeNoData := by
  intro rx now s
  refine ⟨_, _, exec_step rx .error now s, exec_step rx .nodata now s, ?_⟩
  change SameOutputs _ _
  by_cases halted : s.stopped = true
  · rw [Ops.step_stopped rx _ now halted, Ops.step_stopped rx _ now halted]
    exact .refl s
  · have running : s.running := Bool.eq_false_of_not_eq_true halted
    rw [Ops.step_running rx _ now running, Ops.step_running rx _ now running, Ops.readPhase_error]
    exact Ops.afterRead_label now rfl _

end Sys2Proof.Machine
end

section
/-! PROOF. The link (42_link_engine.md R124, R127): up to the failsafe test the RX engine never lowers it, and raises it only with the strobes and the label of
an accepted RC frame. So the link moves as R124 says, and STEP lowers it at most once. -/

namespace Sys2Proof.Machine

/-- From the one state to the other the history grows without `on_link_down`, the link does not go down, and if it comes up the marks are in the growth. -/
def RaisesWith (marks : List Event) (s t : State) : Prop :=
  ∃ es, t.events = s.events ++ es ∧ .onLinkDown ∉ es ∧ (s.linkUp = true → t.linkUp = true) ∧
    (s.linkUp = false → t.linkUp = true → marks ⊆ es)

/-- A link that stays as it is does not move. -/
theorem RaisesWith.of_linkUp_eq {marks es : List Event} {s t : State} (events : t.events = s.events ++ es) (noStrobe : .onLinkDown ∉ es)
    (same : t.linkUp = s.linkUp) : RaisesWith marks s t :=
  ⟨es, events, noStrobe, fun up => same.trans up, fun down up => absurd (down.symm.trans (same.symm.trans up)) Bool.false_ne_true⟩

theorem RaisesWith.of_events_eq {marks : List Event} {s t : State} (events : t.events = s.events) (same : t.linkUp = s.linkUp) :
    RaisesWith marks s t :=
  .of_linkUp_eq (events.trans (List.append_nil _).symm) List.not_mem_nil same

theorem RaisesWith.refl (marks : List Event) (s : State) : RaisesWith marks s s :=
  .of_events_eq rfl rfl

theorem RaisesWith.trans {marks : List Event} {s t u : State} (h : RaisesWith marks s t) (g : RaisesWith marks t u) : RaisesWith marks s u := by
  obtain ⟨es, grown, noStrobe, stays, raises⟩ := h
  obtain ⟨fs, grown', noStrobe', stays', raises'⟩ := g
  refine ⟨es ++ fs, by rw [grown', grown, List.append_assoc], by simp [noStrobe, noStrobe'], stays' ∘ stays, fun down up => ?_⟩
  cases between : t.linkUp with
  | true => exact List.subset_append_of_subset_left fs (raises down between)
  | false => exact List.subset_append_of_subset_right es (raises' between up)

/-- An entry before a step that raises the link is in the growth of both. -/
theorem RaisesWith.after_raise {marks : List Event} {e : Event} {s t : State} (quiet : e ≠ .onLinkDown)
    (h : RaisesWith marks (Ops.raise e s) t) : RaisesWith (e :: marks) s t := by
  obtain ⟨es, grown, noStrobe, stays, raises⟩ := h
  refine ⟨e :: es, by rw [grown, Ops.raise_events, List.append_assoc, List.singleton_append], ?_, stays, fun down up => ?_⟩
  · exact List.not_mem_cons_of_ne_of_not_mem quiet.symm noStrobe
  · exact List.cons_subset_cons e (raises down up)

theorem Ops.raise_raisesWith (marks : List Event) {e : Event} (quiet : e ≠ .onLinkDown) (s : State) : RaisesWith marks s (Ops.raise e s) :=
  .of_linkUp_eq rfl (by simpa using quiet.symm) rfl

theorem Ops.shift_raisesWith (marks : List Event) (n : Nat) (s : State) : RaisesWith marks s (Ops.shift n s) :=
  .of_events_eq rfl rfl

/-! What raises the link. -/

/-- The strobes of an RC frame that raises the link (43_dispatch.md R136). -/
def rcStrobes : List Event := [.onLinkUp, .onChannels]

theorem Ops.typedFrame_raisesWith (k : Kind) (p : List Byte) (now : Time) (s : State) :
    RaisesWith rcStrobes s (Ops.typedFrame k p now s) := by
  rcases Ops.typedFrame_cases k p now s with ⟨_, e⟩ | ⟨_, ⟨_, e⟩ | ⟨_, e⟩ | ⟨_, e⟩ | ⟨_, e⟩ | ⟨_, e⟩ | ⟨_, e⟩⟩ <;> rw [e]
  case inl => exact Ops.raise_raisesWith _ (by decide) s
  case inr.inl =>
    rw [Ops.acceptRc_eq]
    refine ⟨_, rfl, ?_, fun _ => rfl, fun down _ => ?_⟩
    · cases s.linkUp <;> decide
    · rw [down]
      exact List.Subset.refl _
  all_goals exact .of_events_eq rfl rfl

/-- A frame that raises the link is an RC frame with its 22 bytes (R136, R144). -/
theorem Ops.typedFrame_raised {k : Kind} {p : List Byte} {now : Time} {s : State} (down : s.linkUp = false)
    (up : (Ops.typedFrame k p now s).linkUp = true) : k = .rc ∧ 22 ≤ p.length := by
  rcases Ops.typedFrame_cases k p now s with ⟨_, e⟩ | ⟨enough, ⟨rfl, _⟩ | ⟨_, e⟩ | ⟨_, e⟩ | ⟨_, e⟩ | ⟨_, e⟩ | ⟨_, e⟩⟩
  case inr.inl => exact ⟨rfl, enough⟩
  all_goals
    rw [e] at up
    exact absurd (down.symm.trans up) Bool.false_ne_true

theorem Ops.dispatch_raisesWith (addr ty : Byte) (p : List Byte) (now : Time) (s : State) :
    RaisesWith rcStrobes s (Ops.dispatch addr ty p now s) := by
  unfold Ops.dispatch
  rcases Ops.dispatchBy_cases Config.types addr ty p now s with ⟨_, e⟩ | ⟨_, _, e⟩ | ⟨k, _, _, e⟩ <;> rw [e]
  · exact Ops.raise_raisesWith _ (by decide) s
  · exact Ops.raise_raisesWith _ (by decide) s
  · exact Ops.typedFrame_raisesWith k p now s

/-- A dispatched frame that raises the link has the flight controller's address and the type of RC frames (R135). -/
theorem Ops.dispatch_raised {addr ty : Byte} {p : List Byte} {now : Time} {s : State} (down : s.linkUp = false)
    (up : (Ops.dispatch addr ty p now s).linkUp = true) : addr = 0xC8 ∧ ty = 0x16 ∧ 22 ≤ p.length := by
  unfold Ops.dispatch at up
  rcases Ops.dispatchBy_cases Config.types addr ty p now s with ⟨_, e⟩ | ⟨_, _, e⟩ | ⟨k, fc, known, e⟩ <;> rw [e] at up
  · exact absurd (down.symm.trans up) Bool.false_ne_true
  · exact absurd (down.symm.trans up) Bool.false_ne_true
  · obtain ⟨rfl, enough⟩ := Ops.typedFrame_raised down up
    exact ⟨fc, (kindOf_eq_some_iff ty .rc).mp known, enough⟩

/-! Up to the failsafe test. -/

/-- The entries of a candidate that raises the link (42_link_engine.md R121). -/
def rcMarks : List Event := .frameOk :: rcStrobes

theorem Ops.consumePass_raisesWith (now : Time) (s : State) : RaisesWith rcMarks s (Ops.consumePass now s).1 := by
  rcases Ops.consumePass_cases now s with ⟨_, e⟩ | ⟨_, e⟩ | ⟨_, _, e⟩ | ⟨L, _, e⟩ | ⟨L, _, e⟩ <;> rw [e]
  · exact .refl _ s
  · exact (Ops.raise_raisesWith _ (by decide) s).trans (Ops.shift_raisesWith _ 1 _)
  · exact .refl _ s
  · exact ((Ops.dispatch_raisesWith _ _ _ now (Ops.raise .frameOk s)).trans (Ops.shift_raisesWith _ (L + 2) _)).after_raise (by decide)
  · exact (Ops.raise_raisesWith _ (by decide) s).trans (Ops.shift_raisesWith _ (L + 2) _)

theorem Ops.consume_raisesWith (now : Time) (s : State) : RaisesWith rcMarks s (Ops.consume now s) :=
  Ops.consume_induction now (RaisesWith rcMarks s) (fun _ h => h.trans (Ops.consumePass_raisesWith now _)) s (.refl _ s)

theorem Ops.flushLoop_raisesWith (now : Time) (n : Nat) (s : State) : RaisesWith rcMarks s (Ops.flushLoop n now s) := by
  induction n generalizing s with
  | zero => exact .refl _ s
  | succ n ih =>
    unfold Ops.flushLoop
    split
    · exact ((Ops.shift_raisesWith _ 1 s).trans (Ops.consume_raisesWith now _)).trans (ih _)
    · exact .refl _ s

theorem Ops.tmo_raisesWith (now : Time) (s : State) : RaisesWith rcMarks s (Ops.tmo now s) := by
  unfold Ops.tmo
  split
  · exact (Ops.raise_raisesWith _ (by decide) s).trans (Ops.flushLoop_raisesWith now _ _)
  · exact .refl _ s

theorem Ops.rxb_raisesWith (marks : List Event) (b : Byte) (t : Time) (s : State) : RaisesWith marks s (Ops.rxb b t s) := by
  rcases Ops.rxb_cases b t s with ⟨_, e⟩ | ⟨_, e⟩ <;> rw [e]
  · exact .of_linkUp_eq rfl (by decide) rfl
  · exact .of_events_eq rfl rfl

theorem Ops.readPhase_raisesWith (marks : List Event) (rx : List (Byte × Time)) (fin : ReadEnd) (s : State) :
    RaisesWith marks s (Ops.readPhase rx fin s) := by
  have read : RaisesWith marks s (rx.foldl (fun s q => Ops.rxb q.1 q.2 s) s) :=
    List.foldlRecOn rx _ (RaisesWith.refl marks s) fun _ h _ _ => h.trans (Ops.rxb_raisesWith marks _ _ _)
  unfold Ops.readPhase
  split
  · exact read.trans (Ops.raise_raisesWith _ (by decide) _)
  · exact read

/-- What STEP does before its failsafe test (R126). -/
theorem Ops.untilLdn_raisesWith (rx : List (Byte × Time)) (fin : ReadEnd) (now : Time) (s : State) :
    RaisesWith rcMarks s (Ops.tmo now (Ops.consume now (Ops.readPhase rx fin s))) :=
  ((Ops.readPhase_raisesWith _ rx fin s).trans (Ops.consume_raisesWith now _)).trans (Ops.tmo_raisesWith now _)

/-! The bounds of STEP. -/

theorem RaisesWith.count_onLinkDown {marks : List Event} {s t : State} (h : RaisesWith marks s t) :
    t.events.count .onLinkDown = s.events.count .onLinkDown := by
  obtain ⟨es, grown, noStrobe, -⟩ := h
  rw [grown, List.count_append, List.count_eq_zero.mpr noStrobe, Nat.add_zero]

theorem Ops.ldn_count_onLinkDown (now : Time) (s : State) :
    (Ops.ldn now s).events.count .onLinkDown ≤ s.events.count .onLinkDown + 1 := by
  rcases Ops.ldn_cases now s with ⟨_, e⟩ | ⟨_, e⟩ <;> rw [e]
  · simp
  · exact Nat.le_succ _

theorem Ops.ldn_rxBuf (now : Time) (s : State) : (Ops.ldn now s).rxBuf = s.rxBuf := by
  rcases Ops.ldn_cases now s with ⟨_, e⟩ | ⟨_, e⟩ <;> rw [e]

theorem Ops.flushLoop_rxLen_le (now : Time) (n : Nat) (s : State) : (Ops.flushLoop n now s).rxLen ≤ s.rxLen := by
  induction n generalizing s with
  | zero => exact Nat.le_refl _
  | succ n ih =>
    unfold Ops.flushLoop
    split
    · have shifted : (Ops.shift 1 s).rxLen = s.rxLen - 1 := List.length_drop
      have consumed := Ops.consume_rxLen_le now (Ops.shift 1 s)
      have rest := ih (Ops.consume now (Ops.shift 1 s))
      omega
    · exact Nat.le_refl _

theorem Ops.tmo_rxLen_le (now : Time) (s : State) : (Ops.tmo now s).rxLen ≤ s.rxLen := by
  unfold Ops.tmo
  split
  · exact Ops.flushLoop_rxLen_le now _ (Ops.raise .truncated s)
  · exact Nat.le_refl _

/-- With nothing to read, nothing buffered and the link down each phase does nothing (R127). -/
theorem Ops.step_idle {fin : ReadEnd} {now : Time} {s : State} (running : s.running) (noError : fin ≠ .error) (empty : s.rxLen = 0)
    (down : s.linkUp = false) : Ops.step [] fin now s = s := by
  have read : Ops.readPhase [] fin s = s := if_neg noError
  have short : s.rxBuf.length < 2 := empty.trans_lt (by decide)
  rw [Ops.step_running _ _ _ running, read, Ops.consume_of_waits (Ops.consumePass_waitHdr (frameCheck_of_short short) now),
    Ops.tmo_idle (.inl empty), Ops.ldn_idle (.inl down)]

/-- Settles O42: CONSUME bounds the buffer, and only the last phase has the strobe. -/
theorem stepBounds : Obligations.StepBounds := by
  intro rx fin now s running
  refine ⟨Ops.step rx fin now s, exec_step rx fin now s, ?_, ?_, ?_⟩
  · rw [Ops.step_running rx fin now running, State.rxLen, Ops.ldn_rxBuf]
    exact (Ops.tmo_rxLen_le now _).trans (Ops.consume_rxLen_le_63 now _)
  · rw [Ops.step_running rx fin now running, ← (Ops.untilLdn_raisesWith rx fin now s).count_onLinkDown]
    exact Ops.ldn_count_onLinkDown now _
  · rintro rfl noError empty down
    exact Ops.step_idle running noError empty down

/-! Every operation. -/

/-- The link moves by an operation only as R124 says. -/
def LinkMoves (i : Instr) (s t : State) : Prop :=
  ∃ es, t.events = s.events ++ es ∧
    (s.linkUp = false → t.linkUp = true → .onLinkUp ∈ es ∧ .onChannels ∈ es ∧
      ((∃ p now, i = .rc p now ∧ 22 ≤ p.length) ∨ (∃ p now, i = .dispatch 0xC8 0x16 p now ∧ 22 ≤ p.length) ∨
       (((∃ now, i = .consume now) ∨ (∃ now, i = .crcOk now) ∨ (∃ now, i = .tmo now) ∨ ∃ rx fin now, i = .step rx fin now) ∧ .frameOk ∈ es))) ∧
    (s.linkUp = true → t.linkUp = false → .onLinkDown ∈ es ∧
      ∃ now, (i = .ldn now ∨ ∃ rx fin, i = .step rx fin now) ∧ 120000 < (now - t.lastReceiveMs).toNat)

theorem LinkMoves.of_linkUp_eq {i : Instr} {s t : State} (grown : s.events <+: t.events) (same : t.linkUp = s.linkUp) : LinkMoves i s t := by
  obtain ⟨es, grown⟩ := grown
  refine ⟨es, grown.symm, fun down up => ?_, fun up down => ?_⟩
  · exact absurd (down.symm.trans (same.symm.trans up)) Bool.false_ne_true
  · exact absurd (down.symm.trans (same.trans up)) Bool.false_ne_true

theorem LinkMoves.refl (i : Instr) (s : State) : LinkMoves i s s := .of_linkUp_eq List.prefix_rfl rfl

theorem Ops.whenRunning_linkMoves {i : Instr} {s s' : State} (h : LinkMoves i s s') : LinkMoves i s (Ops.whenRunning s s') :=
  Ops.whenRunning_induction (.refl i s) h

/-- A frame alone moves the link if it raises it as an RC frame. -/
theorem RaisesWith.linkMoves_frame {i : Instr} {s t : State} (h : RaisesWith rcStrobes s t)
    (raised : s.linkUp = false → t.linkUp = true →
      (∃ p now, i = .rc p now ∧ 22 ≤ p.length) ∨ ∃ p now, i = .dispatch 0xC8 0x16 p now ∧ 22 ≤ p.length) : LinkMoves i s t := by
  obtain ⟨es, grown, -, stays, raises⟩ := h
  refine ⟨es, grown, fun down up => ?_, fun up down => absurd (down.symm.trans (stays up)) Bool.false_ne_true⟩
  have strobes := raises down up
  exact ⟨strobes (by decide), strobes (by decide), (raised down up).imp_right .inl⟩

/-- The candidates in the buffer move the link with the label of an accepted frame. -/
theorem RaisesWith.linkMoves_candidates {i : Instr} {s t : State} (h : RaisesWith rcMarks s t)
    (loop : (∃ now, i = .consume now) ∨ (∃ now, i = .crcOk now) ∨ (∃ now, i = .tmo now) ∨ ∃ rx fin now, i = .step rx fin now) :
    LinkMoves i s t := by
  obtain ⟨es, grown, -, stays, raises⟩ := h
  refine ⟨es, grown, fun down up => ?_, fun up down => absurd (down.symm.trans (stays up)) Bool.false_ne_true⟩
  have marks := raises down up
  exact ⟨marks (by decide), marks (by decide), .inr (.inr ⟨loop, marks (by decide)⟩)⟩

theorem Ops.typedFrame_linkMoves {i : Instr} {k : Kind} {p : List Byte} {now : Time} (s : State)
    (row : k = .rc → i = .rc p now) : LinkMoves i s (Ops.typedFrame k p now s) := by
  refine (Ops.typedFrame_raisesWith k p now s).linkMoves_frame fun down up => ?_
  obtain ⟨rc, enough⟩ := Ops.typedFrame_raised down up
  exact .inl ⟨p, now, row rc, enough⟩

theorem Ops.dispatch_linkMoves (addr ty : Byte) (p : List Byte) (now : Time) (s : State) :
    LinkMoves (.dispatch addr ty p now) s (Ops.dispatch addr ty p now s) := by
  refine (Ops.dispatch_raisesWith addr ty p now s).linkMoves_frame fun down up => ?_
  obtain ⟨rfl, rfl, enough⟩ := Ops.dispatch_raised down up
  exact .inr ⟨p, now, rfl, enough⟩

theorem Ops.ldn_linkMoves (now : Time) (s : State) : LinkMoves (.ldn now) s (Ops.ldn now s) := by
  rcases Ops.ldn_cases now s with ⟨timedOut, e⟩ | ⟨_, e⟩ <;> rw [e]
  · obtain ⟨_, late⟩ := (linkTimedOut_iff s now).mp timedOut
    exact ⟨[.onLinkDown], rfl, fun _ up => absurd up Bool.false_ne_true, fun _ _ => ⟨List.mem_singleton_self _, now, .inl rfl, late⟩⟩
  · exact .refl _ s

/-- STEP raises the link by its candidates and lowers it by its failsafe test (R126). -/
theorem Ops.step_linkMoves (rx : List (Byte × Time)) (fin : ReadEnd) (now : Time) (s : State) :
    LinkMoves (.step rx fin now) s (Ops.step rx fin now s) := by
  unfold Ops.step
  split
  · exact .refl _ s
  · have before := Ops.untilLdn_raisesWith rx fin now s
    generalize Ops.tmo now (Ops.consume now (Ops.readPhase rx fin s)) = u at before
    rcases Ops.ldn_cases now u with ⟨timedOut, e⟩ | ⟨_, e⟩ <;> rw [e]
    · obtain ⟨_, late⟩ := (linkTimedOut_iff u now).mp timedOut
      obtain ⟨es, grown, -⟩ := before
      refine ⟨es ++ [.onLinkDown], by rw [grown, List.append_assoc], fun _ up => absurd up Bool.false_ne_true, fun _ _ => ?_⟩
      exact ⟨List.mem_append_right es (List.mem_singleton_self _), now, .inr ⟨rx, fin, rfl⟩, late⟩
    · exact before.linkMoves_candidates (.inr (.inr (.inr ⟨rx, fin, now, rfl⟩)))

/-- An operation that leaves the link as it was, whose payload is that of a receivable frame. -/
theorem exec_linkMoves_of_linkUp_eq {i : Instr} {s t : State} (fits : i.payloadFits) (h : exec i s = .next t) (same : t.linkUp = s.linkUp) :
    LinkMoves i s t :=
  .of_linkUp_eq (exec_updates fits h).stickyKept.events same

/-- Outside the RX engine the link stays (00_scope.md R5). -/
theorem exec_notRx_linkMoves {i : Instr} {s t : State} (notRx : i.engine ≠ some .rx) (h : exec i s = .next t) : LinkMoves i s t := by
  have fits : i.payloadFits := by
    cases i with
    | rc | gps | batt | linkstat | att | fmode | dispatch => exact absurd rfl notRx
    | _ => exact trivial
  obtain ⟨-, -, -, same, -⟩ := exec_receiveSideKept notRx h
  exact exec_linkMoves_of_linkUp_eq fits h same

theorem Ops.whenRunning_linkUp {s s' : State} (same : s'.linkUp = s.linkUp) : (Ops.whenRunning s s').linkUp = s.linkUp :=
  Ops.whenRunning_induction (P := fun u => u.linkUp = s.linkUp) rfl same

theorem Ops.rxb_linkUp (b : Byte) (t : Time) (s : State) : (Ops.rxb b t s).linkUp = s.linkUp := by
  rcases Ops.rxb_cases b t s with ⟨_, e⟩ | ⟨_, e⟩ <;> rw [e]

/-- Only a pass with an accepted candidate moves the link (42_link_engine.md R118 to R122). -/
theorem Ops.consumePass_linkUp {s : State} (notAccepted : ∀ L, frameCheck s.rxBuf ≠ .crcOk L) (now : Time) :
    (Ops.consumePass now s).1.linkUp = s.linkUp := by
  rcases Ops.consumePass_cases now s with ⟨_, e⟩ | ⟨_, e⟩ | ⟨_, _, e⟩ | ⟨L, accepted, _⟩ | ⟨_, _, e⟩
  case inr.inr.inr.inl => exact absurd accepted (notAccepted L)
  all_goals exact congrArg (fun pass => pass.1.linkUp) e

theorem exec_quietRow_linkMoves {i : Instr} {s t : State} (row : i = .waitHdr ∨ i = .resync ∨ i = .waitBody ∨ i = .crcBad)
    (h : exec i s = .next t) : LinkMoves i s t := by
  have notAccepted : ∀ L, frameCheck s.rxBuf ≠ .crcOk L := by
    intro L accepted
    rcases row with rfl | rfl | rfl | rfl <;> simp [exec, execWaitHdr, execResync, execWaitBody, execCrcBad, accepted] at h
  have fits : i.payloadFits := by rcases row with rfl | rfl | rfl | rfl <;> exact trivial
  refine exec_linkMoves_of_linkUp_eq fits h ?_
  rw [exec_caseRow_next (now := 0) (by tauto) h]
  exact Ops.whenRunning_linkUp (Ops.consumePass_linkUp notAccepted 0)

theorem exec_rx_linkMoves {i : Instr} {s t : State} (byRx : i.engine = some .rx) (h : exec i s = .next t) : LinkMoves i s t := by
  cases i with
  | rc p now =>
    refine kept_of_next (R := LinkMoves _) (Ops.whenRunning_linkMoves (Ops.typedFrame_linkMoves s ?_)) h
    exact fun _ => rfl
  | gps p | batt p | linkstat p | att p | fmode p =>
    refine kept_of_next (R := LinkMoves _) (Ops.whenRunning_linkMoves (Ops.typedFrame_linkMoves s ?_)) h
    exact nofun
  | shortPayload | unknown | foreignAddr =>
    have same := kept_of_next (R := fun s t => t.linkUp = s.linkUp) (Ops.whenRunning_linkUp (Ops.raise_linkUp _ s)) h
    exact exec_linkMoves_of_linkUp_eq trivial h same
  | rxb b t =>
    have same := kept_of_next (R := fun s t => t.linkUp = s.linkUp) (Ops.whenRunning_linkUp (Ops.rxb_linkUp b t s)) h
    exact exec_linkMoves_of_linkUp_eq trivial h same
  | consume now =>
    exact kept_of_next (R := LinkMoves _) (Ops.whenRunning_linkMoves
      ((Ops.consume_raisesWith now s).linkMoves_candidates (.inl ⟨now, rfl⟩))) h
  | waitHdr | resync | waitBody | crcBad => exact exec_quietRow_linkMoves (by simp) h
  | crcOk now =>
    rw [exec_caseRow_next (now := now) (by simp) h]
    exact Ops.whenRunning_linkMoves ((Ops.consumePass_raisesWith now s).linkMoves_candidates (.inr (.inl ⟨now, rfl⟩)))
  | tmo now =>
    exact kept_of_next (R := LinkMoves _) (Ops.whenRunning_linkMoves
      ((Ops.tmo_raisesWith now s).linkMoves_candidates (.inr (.inr (.inl ⟨now, rfl⟩))))) h
  | ldn now => exact kept_of_next (R := LinkMoves _) (Ops.whenRunning_linkMoves (Ops.ldn_linkMoves now s)) h
  | step rx fin now => exact kept_of_next (R := LinkMoves _) (Ops.step_linkMoves rx fin now s) h
  | dispatch addr ty p now => exact kept_of_next (R := LinkMoves _) (Ops.whenRunning_linkMoves (Ops.dispatch_linkMoves addr ty p now s)) h
  | _ => simp [Instr.engine] at byRx

/-- Settles O16: by the agent that executes the operation. -/
theorem onlyRcFramesAndSilenceMoveTheLink : Obligations.OnlyRcFramesAndSilenceMoveTheLink := by
  intro i s t h
  change LinkMoves i s t
  by_cases byRx : i.engine = some .rx
  · exact exec_rx_linkMoves byRx h
  · exact exec_notRx_linkMoves byRx h

end Sys2Proof.Machine
end

section
/-! PROOF. The words of a payload (00_scope.md R8, 20_memory.md R46): big-endian numbers, and their signed reading. -/

namespace Sys2Proof

open Machine (bigEndian signed)

/-- One more payload byte at the low end of a word. -/
theorem toNat_append_byteAt {w n k : Nat} {p : List Byte} {v : BitVec w} (high : v.toNat = bigEndian p k n) :
    (v ++ byteAt p (k + n)).toNat = bigEndian p k (n + 1) := by
  rw [BitVec.toNat_append, ← Nat.shiftLeft_add_eq_or_of_lt (byteAt p (k + n)).isLt, Nat.shiftLeft_eq, high, Nat.mul_comm]
  rfl

theorem toNat_byteAt (p : List Byte) (k : Nat) : (byteAt p k).toNat = bigEndian p k 1 := by
  simp [bigEndian, byteAt]

theorem toNat_be16 (p : List Byte) (k : Nat) : (be16 (byteAt p k) (byteAt p (k + 1))).toNat = bigEndian p k 2 :=
  toNat_append_byteAt (toNat_byteAt p k)

theorem toNat_be24 (p : List Byte) (k : Nat) : (be24 (byteAt p k) (byteAt p (k + 1)) (byteAt p (k + 2))).toNat = bigEndian p k 3 :=
  toNat_append_byteAt (toNat_be16 p k)

theorem toNat_be32 (p : List Byte) (k : Nat) :
    (be32 (byteAt p k) (byteAt p (k + 1)) (byteAt p (k + 2)) (byteAt p (k + 3))).toNat = bigEndian p k 4 :=
  toNat_append_byteAt (toNat_be24 p k)

theorem toInt_eq_signed {w : Nat} (v : BitVec (w + 1)) : v.toInt = signed (w + 1) v.toNat := by
  have half : 2 * v.toNat < 2 ^ (w + 1) ↔ v.toNat < 2 ^ w := by omega
  rw [BitVec.toInt_eq_toNat_cond, signed, Nat.add_sub_cancel, if_congr half rfl rfl, Nat.cast_pow, Nat.cast_ofNat]

theorem toInt_be16 (p : List Byte) (k : Nat) : (be16 (byteAt p k) (byteAt p (k + 1))).toInt = signed 16 (bigEndian p k 2) := by
  rw [← toNat_be16, toInt_eq_signed]

theorem toInt_be32 (p : List Byte) (k : Nat) :
    (be32 (byteAt p k) (byteAt p (k + 1)) (byteAt p (k + 2)) (byteAt p (k + 3))).toInt = signed 32 (bigEndian p k 4) := by
  rw [← toNat_be32, toInt_eq_signed]

/-- The first bytes of a payload, one by one. -/
theorem map_byteAt_range {p : List Byte} {n : Nat} (inside : n ≤ p.length) : (List.range n).map (byteAt p) = p.take n := by
  refine List.ext_getElem (by simp [inside]) fun k small _ => ?_
  have within : k < p.length := by simp at small; omega
  simp [byteAt, within]

end Sys2Proof
end

section
/-! PROOF. DISPATCH and the wire rows (43_dispatch.md R135, R136 to R144): the type switch for any type codes, what each row does in a running block, and the
attitude in degrees (R141). -/

namespace Sys2Proof

/-! The type switch. -/

/-- The type code of a kind under any choice of the five parameters (30_encoding.md R64). -/
def Config.TypeMap.code (m : Config.TypeMap) : Kind → Byte
  | .rc => Config.typeRc
  | .gps => m.gps
  | .batt => m.batt
  | .linkstat => m.linkstat
  | .att => m.att
  | .fmode => m.fmode

/-- "The six parameters must be pairwise different" (R64). -/
theorem code_injective {m : Config.TypeMap} (distinct : m.distinct = true) : Function.Injective m.code := by
  intro k k' same
  have nodup : ([.rc, .gps, .batt, .linkstat, .att, .fmode].map m.code).Nodup := of_decide_eq_true distinct
  exact List.inj_on_of_nodup_map nodup (by cases k <;> decide) (by cases k' <;> decide) same

theorem eq_code_of_kindOf {m : Config.TypeMap} {ty : Byte} {k : Kind} (known : kindOf m ty = some k) : ty = m.code k := by
  unfold kindOf at known
  split_ifs at known <;> cases known <;> assumption

theorem kindOf_eq_none_iff (m : Config.TypeMap) (ty : Byte) : kindOf m ty = none ↔ ∀ k, ty ≠ m.code k := by
  constructor
  · intro unknown k
    unfold kindOf at unknown
    split_ifs at unknown
    cases k <;> assumption
  · intro other
    exact Option.eq_none_iff_forall_ne_some.mpr fun k known => other k (eq_code_of_kindOf known)

/-- With pairwise different codes the switch finds each kind by its own code. -/
theorem kindOf_code {m : Config.TypeMap} (distinct : m.distinct = true) (k : Kind) : kindOf m (m.code k) = some k := by
  cases found : kindOf m (m.code k) with
  | none => exact absurd rfl ((kindOf_eq_none_iff m _).mp found k)
  | some k' => rw [code_injective distinct (eq_code_of_kindOf found)]

/-! The attitude in degrees. -/

theorem mkRat_attDiv (n : Int) : mkRat n Config.attDiv = (n : ℚ) / 175 := by rw [Rat.mkRat_eq_div]; rfl

theorem attDegrees_pitch (pitch roll yaw : BitVec 16) : (attDegrees pitch roll yaw).pitch = (pitch.toInt : ℚ) / 175 := mkRat_attDiv _

theorem attDegrees_roll (pitch roll yaw : BitVec 16) : (attDegrees pitch roll yaw).roll = (roll.toInt : ℚ) / 175 := mkRat_attDiv _

theorem attDegrees_yaw_of_nonneg (pitch roll : BitVec 16) {yaw : BitVec 16} (nonneg : 0 ≤ yaw.toInt) :
    (attDegrees pitch roll yaw).yaw = (yaw.toInt : ℚ) / 175 :=
  (if_pos nonneg).trans (mkRat_attDiv _)

theorem attDegrees_yaw_of_neg (pitch roll : BitVec 16) {yaw : BitVec 16} (neg : yaw.toInt < 0) :
    (attDegrees pitch roll yaw).yaw = (yaw.toInt : ℚ) / 175 + 360 := by
  have wrapped : (attDegrees pitch roll yaw).yaw = mkRat (yaw.toInt + 360 * 175) Config.attDiv := if_neg (not_le.mpr neg)
  rw [wrapped, mkRat_attDiv]
  push_cast
  ring

/-- A signed 16-bit yaw is less than one turn of 63 000 units from 0, so one turn is enough to bring it into [0, 360). -/
theorem attDegrees_yaw_mem (pitch roll yaw : BitVec 16) : 0 ≤ (attDegrees pitch roll yaw).yaw ∧ (attDegrees pitch roll yaw).yaw < 360 := by
  have least : (-32768 : ℚ) ≤ yaw.toInt := by exact_mod_cast yaw.le_toInt
  have most : (yaw.toInt : ℚ) < 32768 := by exact_mod_cast yaw.toInt_lt
  rcases lt_or_ge yaw.toInt 0 with neg | nonneg
  · rw [attDegrees_yaw_of_neg _ _ neg]
    have below : (yaw.toInt : ℚ) < 0 := by exact_mod_cast neg
    constructor <;> linarith
  · rw [attDegrees_yaw_of_nonneg _ _ nonneg]
    have above : (0 : ℚ) ≤ yaw.toInt := by exact_mod_cast nonneg
    constructor <;> linarith

end Sys2Proof

namespace Sys2Proof.Machine

/-! DISPATCH, case by case (R135). -/

theorem Ops.dispatchBy_foreign (m : Config.TypeMap) {addr : Byte} (foreign : addr ≠ Config.addrFc) (ty : Byte) (p : List Byte) (now : Time)
    (s : State) : Ops.dispatchBy m addr ty p now s = Ops.raise .foreignAddr s := if_pos foreign

theorem Ops.dispatchBy_unknown {m : Config.TypeMap} {ty : Byte} (unknown : kindOf m ty = none) (p : List Byte) (now : Time) (s : State) :
    Ops.dispatchBy m Config.addrFc ty p now s = Ops.raise .unknownType s := by
  simp [Ops.dispatchBy, unknown]

theorem Ops.dispatchBy_known {m : Config.TypeMap} {ty : Byte} {k : Kind} (known : kindOf m ty = some k) (p : List Byte) (now : Time) (s : State) :
    Ops.dispatchBy m Config.addrFc ty p now s = Ops.typedFrame k p now s := by
  simp [Ops.dispatchBy, known]

/-! A frame of a known type, short or not (R136 to R144). -/

section
variable {p : List Byte} (now : Time) (s : State)

theorem Ops.typedFrame_short {k : Kind} (short : p.length < k.need) : Ops.typedFrame k p now s = Ops.raise .shortPayload s := if_pos short

theorem Ops.typedFrame_rc (enough : 22 ≤ p.length) : Ops.typedFrame .rc p now s = Ops.acceptRc p now s := if_neg enough.not_gt

theorem Ops.typedFrame_gps (enough : 15 ≤ p.length) : Ops.typedFrame .gps p now s = { s with gps := Ops.gpsOf p } := if_neg enough.not_gt

theorem Ops.typedFrame_batt (enough : 8 ≤ p.length) : Ops.typedFrame .batt p now s = { s with bat := Ops.batteryOf p } := if_neg enough.not_gt

theorem Ops.typedFrame_linkstat (enough : 10 ≤ p.length) : Ops.typedFrame .linkstat p now s = { s with linkstat := Ops.linkStatOf p } :=
  if_neg enough.not_gt

theorem Ops.typedFrame_att (enough : 6 ≤ p.length) : Ops.typedFrame .att p now s = { s with att := Ops.attitudeOf p } := if_neg enough.not_gt

theorem Ops.typedFrame_fmode (enough : 1 ≤ p.length) : Ops.typedFrame .fmode p now s = { s with fm := ⟨p, true⟩ } := if_neg enough.not_gt

end

/-! The wire rows. -/

/-- The row of a kind is its handler, which reads the clock for no kind but RC. -/
theorem exec_kindRow (k : Kind) (p : List Byte) (now : Time) (s : State) :
    exec (k.row p now) s = .next (Ops.whenRunning s (Ops.typedFrame k p now s)) := by
  cases k <;> rfl

theorem exec_kindRow_running {s : State} (running : s.running) (k : Kind) (p : List Byte) (now : Time) :
    exec (k.row p now) s = .next (Ops.typedFrame k p now s) :=
  (exec_kindRow k p now s).trans (next_whenRunning running _)

theorem exec_kindRow_short {s : State} (running : s.running) (k : Kind) {p : List Byte} (short : p.length < k.need) (now : Time) :
    exec (k.row p now) s = .next { s with events := s.events ++ [.shortPayload] } := by
  rw [exec_kindRow_running running, Ops.typedFrame_short now s short, Ops.raise]

theorem exec_shortPayload {s : State} (running : s.running) (ty : Byte) (p : List Byte) :
    exec (.shortPayload ty p) s = .next { s with events := s.events ++ [.shortPayload] } := next_whenRunning running _

theorem exec_unknown {s : State} (running : s.running) (ty : Byte) (p : List Byte) :
    exec (.unknown ty p) s = .next { s with events := s.events ++ [.unknownType] } := next_whenRunning running _

theorem exec_foreignAddr {s : State} (running : s.running) (addr ty : Byte) (p : List Byte) :
    exec (.foreignAddr addr ty p) s = .next { s with events := s.events ++ [.foreignAddr] } := next_whenRunning running _

/-- DISPATCH in the four ways in which a frame selects its row (30_encoding.md R79), in a running block or not. -/
theorem exec_selectRow (addr ty : Byte) (p : List Byte) (now : Time) (s : State) :
    exec (selectRow addr ty p now) s = .next (Ops.whenRunning s (Ops.dispatch addr ty p now s)) := by
  rcases selectRow_cases addr ty p now with ⟨foreign, row⟩ | ⟨rfl, unknown, row⟩ | ⟨k, rfl, rfl, short, row⟩ | ⟨k, rfl, rfl, -, row⟩ <;>
    rw [row, Ops.dispatch]
  · rw [Ops.dispatchBy_foreign _ foreign]; rfl
  · rw [Ops.dispatchBy_unknown unknown]; rfl
  · rw [Ops.dispatchBy_known ((kindOf_eq_some_iff _ k).mpr rfl), Ops.typedFrame_short now s short]; rfl
  · rw [Ops.dispatchBy_known ((kindOf_eq_some_iff _ k).mpr rfl), exec_kindRow]

/-- Settles O7: the selected row is DISPATCH. -/
theorem dispatchRunsTheSelectedRow : Obligations.DispatchRunsTheSelectedRow := fun addr ty p now s =>
  ⟨(exec_selectRow addr ty p now s).symm, _, rfl⟩

/-- The row of a kind is DISPATCH of its code under any pairwise different codes. -/
theorem exec_kindRow_eq_dispatchBy {m : Config.TypeMap} (distinct : m.distinct = true) {s : State} (running : s.running) (k : Kind)
    (p : List Byte) (now : Time) : exec (k.row p now) s = .next (Ops.dispatchBy m Config.addrFc (m.code k) p now s) := by
  rw [exec_kindRow_running running, Ops.dispatchBy_known (kindOf_code distinct k)]

/-- Settles O8: the six kinds by their codes, and the two rows that no code selects. -/
theorem typeSwitchForAnyTypeCodes : Obligations.TypeSwitchForAnyTypeCodes := by
  intro m p now s distinct running
  have row := fun k => exec_kindRow_eq_dispatchBy distinct running k p now
  refine ⟨row .rc, row .gps, row .batt, row .linkstat, row .att, row .fmode, fun ty rc gps batt linkstat att fmode => ?_, fun addr ty foreign => ?_⟩
  · have unknown : kindOf m ty = none := (kindOf_eq_none_iff m ty).mpr fun k => by cases k <;> assumption
    rw [exec_unknown running, Ops.dispatchBy_unknown unknown, Ops.raise]
  · rw [exec_foreignAddr running, Ops.dispatchBy_foreign m foreign, Ops.raise]

/-- Settles O23: each row short of its layout, and the three rows of dropped frames. -/
theorem droppedFramesChangeNothing : Obligations.DroppedFramesChangeNothing := by
  intro p s running
  have short := fun k (h : p.length < k.need) now => exec_kindRow_short running k h now
  exact ⟨(exec_shortPayload running · p), (exec_unknown running · p), (exec_foreignAddr running · · p), fun now h => short .rc h now,
    (short .gps · 0), (short .batt · 0), (short .linkstat · 0), (short .att · 0), (short .fmode · 0)⟩

/-! What each frame writes. -/

/-- The channels of an RC frame are read off the stream of its first 22 bytes (41_channel_codec.md R105, R107). -/
theorem unpackChannels_take_toInt {p : List Byte} (enough : 22 ≤ p.length) (i : Fin 16) :
    ((unpackChannels (p.take 22))[i]).toInt =
      code2us ((∑ k ∈ Finset.range 22, (p.getD k 0).toNat * 2 ^ (8 * k)) / 2 ^ (11 * (i : Nat)) % 2048 : Nat) := by
  have whole : (p.take 22).length = 22 := by simp [enough]
  have stream : streamOfBytes (p.take 22) = ∑ k ∈ Finset.range 22, (p.getD k 0).toNat * 2 ^ (8 * k) := by
    rw [streamOfBytes_eq_sum whole]
    refine Finset.sum_congr rfl fun k inside => ?_
    rw [← byteAt, byteAt_take (Finset.mem_range.mp inside)]
  rw [unpackChannels_toInt, List.getD_eq_getElem?_getD, unpack_getElem?, stream, Option.getD_some]

/-- Settles O18: the accepted frame, with the channels of its stream. -/
theorem rcFrameWritesChannelsAndLink : Obligations.RcFrameWritesChannelsAndLink := by
  intro p now s enough running
  refine ⟨unpackChannels (p.take 22), ?_, unpackChannels_take_toInt enough⟩
  rw [← Ops.acceptRc_eq, ← Ops.typedFrame_rc now s enough]
  exact exec_kindRow_running running .rc p now

/-- Settles O19, field by field. -/
theorem gpsFrameWritesItsGroup : Obligations.GpsFrameWritesItsGroup := by
  intro p s enough running
  refine ⟨Ops.gpsOf p, ?_, toInt_be32 p 0, toInt_be32 p 4, toNat_be16 p 8, toNat_be16 p 10, toNat_be16 p 12, toNat_byteAt p 14, rfl⟩
  rw [← Ops.typedFrame_gps 0 s enough]
  exact exec_kindRow_running running .gps p 0

/-- Settles O20, field by field. -/
theorem batteryFrameWritesItsGroup : Obligations.BatteryFrameWritesItsGroup := by
  intro p s enough running
  refine ⟨Ops.batteryOf p, ?_, toNat_be16 p 0, toNat_be16 p 2, toNat_be24 p 4, toNat_byteAt p 7, rfl⟩
  rw [← Ops.typedFrame_batt 0 s enough]
  exact exec_kindRow_running running .batt p 0

/-- Settles O21, field by field. -/
theorem attitudeFrameWritesItsGroup : Obligations.AttitudeFrameWritesItsGroup := by
  intro p s enough running
  refine ⟨Ops.attitudeOf p, ?_, toInt_be16 p 0, toInt_be16 p 2, toInt_be16 p 4, rfl⟩
  rw [← Ops.typedFrame_att 0 s enough]
  exact exec_kindRow_running running .att p 0

/-- Settles O22: the ten bytes are the first of the payload, and flight mode is the payload. -/
theorem verbatimFramesWriteTheirGroups : Obligations.VerbatimFramesWriteTheirGroups := by
  refine ⟨fun p s enough running => ⟨Ops.linkStatOf p, ?_, map_byteAt_range enough, rfl⟩, fun p s enough running => ?_⟩
  · rw [← Ops.typedFrame_linkstat 0 s enough]
    exact exec_kindRow_running running .linkstat p 0
  · rw [← Ops.typedFrame_fmode 0 s enough]
    exact exec_kindRow_running running .fmode p 0

/-- Settles O34: the fields of ATT_DEGREES. -/
theorem attitudeInDegrees : Obligations.AttitudeInDegrees := fun s =>
  ⟨_, exec_attDegrees s, attDegrees_pitch _ _ _, attDegrees_roll _ _ _, attDegrees_yaw_of_nonneg _ _, attDegrees_yaw_of_neg _ _,
    attDegrees_yaw_mem _ _ _⟩

end Sys2Proof.Machine
end

section
/-! PROOF. The channel store (44_channel_store.md R155 to R157): which element a 1-based channel number names, what CH_GET and CH_SET do with a number that
names one and with a number that names none. -/

namespace Sys2Proof

/-! Channel numbers, 1-based outside and 0-based inside (R155). -/

theorem channelIndex_succ (i : Fin 16) : channelIndex ((i : Int) + 1) = some i := by simp [channelIndex]

theorem channelIndex_outside {k : Int} (outside : k < 1 ∨ 16 < k) : channelIndex k = none := by
  have noIndex : ¬ (1 ≤ k ∧ k ≤ 16) := by omega
  simp [channelIndex, noIndex]

end Sys2Proof

namespace Sys2Proof.Machine

/-! CH_GET and CH_SET by the element that the number names. -/

theorem Ops.chGet_named {k : Int} {i : Fin 16} (named : channelIndex k = some i) (s : State) : Ops.chGet k s = (s.ch[i]).toInt := by
  simp [Ops.chGet, named]

theorem Ops.chGet_unnamed {k : Int} (unnamed : channelIndex k = none) (s : State) : Ops.chGet k s = Config.usMid := by
  simp [Ops.chGet, unnamed]

theorem Ops.chSet_named {k : Int} {i : Fin 16} (named : channelIndex k = some i) (us : Chan) (s : State) :
    Ops.chSet k us s = { s with ch := s.ch.set i us } := by
  simp [Ops.chSet, named]

theorem Ops.chSet_unnamed {k : Int} (unnamed : channelIndex k = none) (us : Chan) (s : State) : Ops.chSet k us s = s := by
  simp [Ops.chSet, unnamed]

/-! The rows. -/

/-- A read answers in any state and changes nothing but the answer (R155, 20_memory.md R53). -/
theorem exec_chGet (k : Int) (s : State) : exec (.chGet k) s = .next { s with result := .int (Ops.chGet k s) } := rfl

theorem exec_chSet {s : State} (running : s.running) (k : Int) (us : Chan) : exec (.chSet k us) s = .next (Ops.chSet k us s) :=
  next_whenRunning running _

/-- Settles O44: a read by the number's element, and the snapshot. -/
theorem channelReads : Obligations.ChannelReads := by
  refine fun s => ⟨fun i => ?_, fun k outside => ?_, rfl⟩
  · rw [exec_chGet, Ops.chGet_named (channelIndex_succ i)]
  · rw [exec_chGet, Ops.chGet_unnamed (channelIndex_outside outside), Config.usMid]

/-- Settles O45: the store after a write in range is the old one with one element set. -/
theorem channelWrites : Obligations.ChannelWrites := by
  refine fun us s running => ⟨fun i => ⟨s.ch.set i us, ?_, ?_, fun j other => ?_⟩, fun k outside => ?_⟩
  · rw [exec_chSet running, Ops.chSet_named (channelIndex_succ i)]
  · exact Vector.getElem_set_self i.isLt
  · exact Vector.getElem_set_ne i.isLt j.isLt (Fin.val_ne_of_ne other.symm)
  · rw [exec_chSet running, Ops.chSet_unnamed (channelIndex_outside outside)]

end Sys2Proof.Machine
end

section
/-! PROOF. The send scheduler (45_send_scheduler.md R165 to R171): the frame that SEND_BUILD forms, the link gate, the emit by the wire's answer, and SEND, TICK
and SCHED_ITER made of them. -/

namespace Sys2Proof.Machine

/-! The transmitted frame (R166, 30_encoding.md R73). -/

theorem Ops.rcFrame_eq (us : Vector Chan 16) :
    Ops.rcFrame us = [0xC8, 0x18, 0x16] ++ packChannels us ++ [crc8 (0x16 :: packChannels us)] := by
  rw [Ops.rcFrame, frameBytes, packChannels_length]
  rfl

theorem Ops.rcFrame_length (us : Vector Chan 16) : (Ops.rcFrame us).length = 26 := by
  rw [Ops.rcFrame, frameBytes_length, packChannels_length]

theorem frameCheck_rcFrame (us : Vector Chan 16) : frameCheck (Ops.rcFrame us) = .crcOk 24 := by
  have size := packChannels_length us
  rw [Ops.rcFrame, frameCheck_frameBytes _ _ (by omega) (by omega), size]

/-- Settles O46: the frame laid out as FRAME_ENCODE does, accepted by FRAME_CHECK, and UNPACK_CHANNELS after PACK_CHANNELS. -/
theorem transmittedFrame : Obligations.TransmittedFrame := by
  intro s p running packed
  obtain rfl : p = packChannels s.ch := packed
  rw [← Ops.rcFrame_eq]
  exact ⟨next_whenRunning running _, next_whenRunning running _, packChannels_length s.ch, frameCheck_rcFrame s.ch,
    unpackChannels_packChannels s.ch⟩

/-! SEND_GATE (R167). -/

theorem gateOpen_iff (s : State) : gateOpen s = true ↔ s.linkUp = true ∨ s.ignoreTel = true := by rw [gateOpen, Bool.or_eq_true]

theorem gateOpen_eq_false_iff (s : State) : gateOpen s = false ↔ s.linkUp = false ∧ s.ignoreTel = false := Bool.or_eq_false_iff

theorem Ops.sendGate_open {s : State} {f : List Byte} (built : s.txInflight = .built f) (gate : gateOpen s = true) :
    Ops.sendGate s = { s with txInflight := .passed f } := by
  simp [Ops.sendGate, built, gate]

theorem Ops.sendGate_closed {s : State} {f : List Byte} (built : s.txInflight = .built f) (gate : gateOpen s = false) :
    Ops.sendGate s = { s with txInflight := .none, events := s.events ++ [.txGated] } := by
  simp [Ops.sendGate, built, gate, Ops.raise]

theorem exec_sendGate {s : State} {f : List Byte} (running : s.running) (built : s.txInflight = .built f) :
    exec .sendGate s = .next (Ops.sendGate s) :=
  (stepIsOperation_sendGate running built).1

/-- Settles O47: the gate by its two sides. -/
theorem linkGate : Obligations.LinkGate := by
  intro f s running built
  rw [exec_sendGate running built]
  exact ⟨fun opens => congrArg _ (Ops.sendGate_open built ((gateOpen_iff s).mpr opens)),
    fun down heeded => congrArg _ (Ops.sendGate_closed built ((gateOpen_eq_false_iff s).mpr ⟨down, heeded⟩))⟩

/-! SEND_EMIT by the answer that the wire has ready (R168, 20_memory.md R45). -/

section
variable {s : State} {f : List Byte} (passed : s.txInflight = .passed f)
include passed

theorem exec_sendEmit (running : s.running) : exec .sendEmit s = .next (Ops.sendEmit s) := (stepIsOperation_sendEmit running passed).1

theorem Ops.sendEmit_accepted {as : List EmitAnswer} (ready : s.emitAnswers = .accepted :: as) :
    Ops.sendEmit s = { s with txInflight := .none, emitAnswers := as, txLine := s.txLine ++ [.frame f] } := by
  simp [Ops.sendEmit, passed, Ops.nextAnswer, ready]

theorem Ops.sendEmit_failed (notEmpty : f ≠ []) {as : List EmitAnswer} (ready : s.emitAnswers = .failed :: as) :
    ∃ b n, b <+: f ∧ b.length < f.length ∧
      Ops.sendEmit s = { s with txInflight := .none, emitAnswers := as, txLine := s.txLine ++ [.partialFrame b],
                                freeCount := n, events := s.events ++ [.transportWriteErr] } := by
  obtain ⟨n, ⟨notFailed, _⟩ | ⟨_, b, front, proper, e⟩⟩ := Ops.sendEmit_passed passed notEmpty
  · exact absurd (congrArg List.head? ready) notFailed
  · rw [ready] at e
    exact ⟨b, n, front, proper, e⟩

/-- With no answer at hand the frame is on the line whole or in part (log 9). -/
theorem Ops.sendEmit_unanswered (notEmpty : f ≠ []) (unanswered : s.emitAnswers = []) :
    ∃ n, Ops.sendEmit s = { s with txInflight := .none, txLine := s.txLine ++ [.frame f], freeCount := n } ∨
      ∃ b, b <+: f ∧ b.length < f.length ∧
        Ops.sendEmit s = { s with txInflight := .none, txLine := s.txLine ++ [.partialFrame b],
                                  freeCount := n, events := s.events ++ [.transportWriteErr] } := by
  have same : s.emitAnswers.tail = s.emitAnswers := by rw [unanswered, List.tail_nil]
  obtain ⟨n, ⟨_, e⟩ | ⟨_, b, front, proper, e⟩⟩ := Ops.sendEmit_passed passed notEmpty
  · rw [same] at e
    exact ⟨n, .inl e⟩
  · rw [same] at e
    exact ⟨n, .inr ⟨b, front, proper, e⟩⟩

end

/-- Settles O48: the emit by the wire's answer. -/
theorem passedFrameIsEmitted : Obligations.PassedFrameIsEmitted := by
  intro f s running passed notEmpty
  simp only [exec_sendEmit passed running, Host.Outcome.next.injEq]
  exact ⟨fun _ => Ops.sendEmit_accepted passed, fun _ => Ops.sendEmit_failed passed notEmpty, Ops.sendEmit_unanswered passed notEmpty⟩

/-! SEND (R170). -/

/-- The stamped block when the gate has passed the frame of R166. -/
def State.passing (now : Time) (s : State) : State := { s with lastTxMs := now, txInflight := .passed (Ops.rcFrame s.ch) }

theorem Ops.send_closed (now : Time) {s : State} (gate : gateOpen s = false) :
    Ops.send now s = { s with lastTxMs := now, txInflight := .none, events := s.events ++ [.txGated] } := by
  rw [Ops.send, Ops.sendGate_closed (s := Ops.sendBuild (Ops.stamp now s)) rfl gate]
  rfl

theorem Ops.send_open (now : Time) {s : State} (gate : gateOpen s = true) : Ops.send now s = Ops.sendEmit (s.passing now) := by
  rw [Ops.send, Ops.sendGate_open (s := Ops.sendBuild (Ops.stamp now s)) rfl gate]
  rfl

/-- SEND stamps and leaves nothing in flight, whatever becomes of the frame (D18). -/
theorem Ops.send_stamps (now : Time) (s : State) : (Ops.send now s).lastTxMs = now ∧ (Ops.send now s).txInflight = .none := by
  cases gate : gateOpen s with
  | false =>
    rw [Ops.send_closed now gate]
    exact ⟨rfl, rfl⟩
  | true =>
    rw [Ops.send_open now gate]
    rcases Ops.sendEmit_cases (s.passing now) with ⟨_, _, _, _, e⟩ | ⟨_, _, _, _, _, e⟩ | ⟨empty, _⟩
    · rw [e]
      exact ⟨rfl, rfl⟩
    · rw [e]
      exact ⟨rfl, rfl⟩
    · exact absurd rfl (empty _)

theorem exec_sendRow {i : Instr} {now : Time} {s : State} (running : s.running)
    (row : i = .send now ∨ i = .forceSend now ∨ i = .sendChannels now) : exec i s = .next (Ops.send now s) := by
  rcases row with rfl | rfl | rfl <;> exact next_whenRunning running _

/-- Settles O49: the gate first, then the emit of the stamped block by the wire's answer. -/
theorem sendsStampAndPassTheGate : Obligations.SendsStampAndPassTheGate := by
  intro now s i f running row formed
  obtain rfl : f = Ops.rcFrame s.ch := formed
  rw [exec_sendRow running row]
  simp only [Host.Outcome.next.injEq]
  have size := Ops.rcFrame_length s.ch
  have notEmpty := sendable_ne_nil (sendable_rcFrame s.ch)
  refine ⟨fun gate => Ops.send_closed now gate, fun as gate ready => ?_, fun as gate ready => ?_, fun gate unanswered => ?_,
    _, rfl, (Ops.send_stamps now s).1, (Ops.send_stamps now s).2, Ops.send_ch now s⟩
  · rw [Ops.send_open now gate]
    exact Ops.sendEmit_accepted (s := s.passing now) rfl ready
  · rw [Ops.send_open now gate]
    obtain ⟨b, n, front, proper, e⟩ := Ops.sendEmit_failed (s := s.passing now) rfl notEmpty ready
    exact ⟨b, n, size ▸ proper, front, e⟩
  · rw [Ops.send_open now gate]
    obtain ⟨n, e | ⟨b, front, proper, e⟩⟩ := Ops.sendEmit_unanswered (s := s.passing now) rfl notEmpty unanswered
    · exact ⟨n, .inl e⟩
    · exact ⟨n, .inr ⟨b, size ▸ proper, front, e⟩⟩

/-! TICK (R165). -/

theorem exec_tick {s : State} (running : s.running) (now : Time) : exec (.tick now) s = .next (Ops.tick now s) := next_whenRunning running _

theorem Ops.tick_due {now : Time} {s : State} (due : 10 ≤ (now - s.lastTxMs).toNat) : Ops.tick now s = Ops.send now s :=
  if_pos ((sendDue_iff s now).mpr due)

theorem Ops.tick_early {now : Time} {s : State} (early : (now - s.lastTxMs).toNat < 10) : Ops.tick now s = s :=
  if_neg (by rw [sendDue_iff]; omega)

/-- Settles O50: the test of the period, and the SEND that it lets go. -/
theorem tickSendsWhenDue : Obligations.TickSendsWhenDue := by
  intro now s running
  rw [exec_tick running, exec_sendRow running (.inl rfl)]
  exact ⟨fun due => ⟨_, congrArg _ (Ops.tick_due due), rfl, (Ops.send_stamps now s).1⟩, fun early => congrArg _ (Ops.tick_early early)⟩

/-! SCHED_ITER (R171). -/

/-- A control input leaves the block running: its atomic steps write nothing of the schedule. -/
theorem Ops.applyControl_stopped (now : Time) (c : Control) (s : State) : (Ops.applyControl now c s).stopped = s.stopped :=
  congrArg Schedule.stopped (Agents.takes_control c now s).schedule

theorem exec_controlOp {s : State} (running : s.running) (now : Time) (c : Control) :
    exec (controlOp now c) s = .next (Ops.applyControl now c s) := by
  cases c with
  | chSet | setMode | joyAxis | forceSend => exact next_whenRunning running _

/-- The control inputs one after another, then TICK in the block that they leave, which runs on. -/
theorem execAll_controls_tick (inputs : List Control) (now : Time) {s : State} (running : s.running) :
    execAll (inputs.map (controlOp now) ++ [.tick now]) s = .next (Ops.tick now (Ops.applyControls now inputs s)) := by
  induction inputs generalizing s with
  | nil => exact execAll_cons (exec_tick running now) []
  | cons c cs ih =>
    rw [List.map_cons, List.cons_append, execAll_cons (exec_controlOp running now c)]
    exact ih ((Ops.applyControl_stopped now c s).trans running)

theorem exec_schedIter (inputs : List Control) (now : Time) (s : State) :
    exec (.schedIter inputs now) s = .next (Ops.schedIter inputs now s) := rfl

theorem Ops.schedIter_running (inputs : List Control) (now : Time) {s : State} (running : s.running) :
    Ops.schedIter inputs now s = Ops.tick now (Ops.applyControls now inputs s) :=
  if_neg (ne_true_of_eq_false running)

/-- Settles O51: the inputs by induction, and TICK after the last. -/
theorem schedulerIterationIsItsInputsThenTick : Obligations.SchedulerIterationIsItsInputsThenTick := by
  intro inputs now s
  rw [exec_schedIter]
  refine ⟨fun halted => congrArg _ (Ops.schedIter_stopped inputs now halted), fun running => ?_⟩
  exact ⟨_, congrArg _ (Ops.schedIter_running inputs now running), execAll_controls_tick inputs now running⟩

end Sys2Proof.Machine
end

section
/-! PROOF. The control inputs (46_control_inputs.md R181, R182, R184 to R188): the channel that a number in range names, what `setChannel` and `setChannels`
store, JOY_MAP and the axes that JOY_AXIS maps, and the writes of one register. -/

namespace Sys2Proof

/-- The ingress lets a pair through that names a channel with a value of the nominal range (R181). -/
theorem inCommandRange_iff (i us : Int) : inCommandRange i us = true ↔ (∃ j : Fin 16, i = (j : Int) + 1) ∧ 1000 ≤ us ∧ us ≤ 2000 := by
  have names : (∃ j : Fin 16, i = (j : Int) + 1) ↔ 1 ≤ i ∧ i ≤ 16 :=
    ⟨fun ⟨j, e⟩ => by omega, fun ⟨least, most⟩ => ⟨⟨(i - 1).toNat, by omega⟩, by simp only; omega⟩⟩
  simp [inCommandRange, names, and_assoc]

/-! JOY_MAP (R186). -/

theorem joyMap_mem (v : Int) : 1000 ≤ joyMap v ∧ joyMap v ≤ 2000 := ⟨le_clamp _ (by decide), clamp_le _ (by decide)⟩

theorem joyMap_mono {v w : Int} (le : v ≤ w) : joyMap v ≤ joyMap w := by
  have scaled : (v * 1000 + 32768) / 65536 ≤ (w * 1000 + 32768) / 65536 := by omega
  exact clamp_mono (Int.add_le_add_left scaled _) (by decide)

/-- Settles O55: the anchors by evaluation; the order, since scaling, rounding and clamping keep it. -/
theorem joystickMapAnchors : Obligations.JoystickMapAnchors :=
  ⟨by decide, by decide, by decide, by decide, fun _ _ => joyMap_mono, joyMap_mem⟩

end Sys2Proof

namespace Sys2Proof.Machine

/-! CH_SET by the element that it writes (44_channel_store.md R156). -/

theorem Ops.chSet_succ (i : Fin 16) (us : Chan) (s : State) : Ops.chSet ((i : Int) + 1) us s = { s with ch := s.ch.set i us } :=
  Ops.chSet_named (channelIndex_succ i) us s

theorem Ops.chSet_succ_getElem_self (i : Fin 16) (us : Chan) (s : State) : (Ops.chSet ((i : Int) + 1) us s).ch[i] = us := by
  rw [Ops.chSet_succ]
  exact Vector.getElem_set_self i.isLt

theorem Ops.chSet_succ_getElem_ne {i j : Fin 16} (other : j ≠ i) (us : Chan) (s : State) :
    (Ops.chSet ((i : Int) + 1) us s).ch[j] = s.ch[j] := by
  rw [Ops.chSet_succ]
  exact Vector.getElem_set_ne i.isLt j.isLt (Fin.val_ne_of_ne other.symm)

/-! One register each (R184, R185, R188). -/

theorem exec_setMode {s : State} (running : s.running) (m : Mode) : exec (.setMode m) s = .next (Ops.setMode m s) := next_whenRunning running _

theorem exec_setModeText {s : State} (running : s.running) (m : Mode) : exec (.setModeText m) s = .next (Ops.setMode m s) :=
  next_whenRunning running _

theorem exec_setIgnoreTel {s : State} (running : s.running) (v : Bool) : exec (.setIgnoreTel v) s = .next (Ops.setIgnoreTel v s) :=
  next_whenRunning running _

theorem exec_stop (s : State) : exec .stop s = .next (Ops.stop s) := rfl

/-- Settles O53: each operation is one register write. -/
theorem modeAndFlagWrites : Obligations.ModeAndFlagWrites :=
  fun m v s running => ⟨exec_setMode running m, exec_setModeText running m, exec_setIgnoreTel running v, exec_stop s⟩

/-! JOY_AXIS (R186, R187). -/

theorem exec_joyAxis {s : State} (running : s.running) (axis : Byte) (a : BitVec 16) : exec (.joyAxis axis a) s = .next (Ops.joyAxis axis a s) :=
  next_whenRunning running _

theorem Ops.joyAxis_manual {s : State} (manual : s.mode = .manual) (axis : Byte) (a : BitVec 16) : Ops.joyAxis axis a s = s := by
  simp [Ops.joyAxis, manual]

/-- An axis that drives a channel stores its mapped value there. -/
theorem Ops.joyAxis_assigned {s : State} (joystick : s.mode = .joystick) {axis : Byte} {a : BitVec 16} {i : Fin 16} {v : Int}
    (assigned : Ops.joyTarget axis a = some ((i : Int) + 1, v)) :
    Ops.joyAxis axis a s = { s with ch := s.ch.set i (BitVec.ofInt 32 (joyMap v)) } := by
  rw [← Ops.chSet_succ]
  simp [Ops.joyAxis, joystick, assigned]

theorem Ops.joyAxis_unassigned {axis : Byte} {a : BitVec 16} (unassigned : Ops.joyTarget axis a = none) (s : State) :
    Ops.joyAxis axis a s = s := by
  simp [Ops.joyAxis, unassigned]

theorem Ops.joyTarget_unassigned {axis : Byte} (other : axis ∉ [0, 1, 2, 3]) (a : BitVec 16) : Ops.joyTarget axis a = none := by
  have numbers : axis.toNat ≠ 0 ∧ axis.toNat ≠ 1 ∧ axis.toNat ≠ 2 ∧ axis.toNat ≠ 3 := by simpa [← BitVec.toNat_inj] using other
  unfold Ops.joyTarget
  split
  case h_5 => rfl
  all_goals omega

/-- Settles O54: the gate by the mode, then the assignment axis by axis. -/
theorem joystickDrivesFourChannels : Obligations.JoystickDrivesFourChannels := by
  intro a s running
  have assigned {axis : Byte} (i : Fin 16) (v : Int) (joystick : s.mode = .joystick) (target : Ops.joyTarget axis a = some ((i : Int) + 1, v)) :
      exec (.joyAxis axis a) s = .next { s with ch := s.ch.set i (BitVec.ofInt 32 (joyMap v)) } := by
    rw [exec_joyAxis running, Ops.joyAxis_assigned joystick target]
  refine ⟨fun axis manual => ?_, fun joystick => ⟨?_, ?_, ?_, ?_, fun axis other => ?_⟩⟩
  · rw [exec_joyAxis running, Ops.joyAxis_manual manual]
  · exact assigned 0 _ joystick rfl
  · exact assigned 1 _ joystick rfl
  · exact assigned 2 _ joystick rfl
  · exact assigned 3 _ joystick rfl
  · rw [exec_joyAxis running, Ops.joyAxis_unassigned (Ops.joyTarget_unassigned other a)]

/-! `setChannel` (R181). -/

theorem exec_setChannel {s : State} (running : s.running) (i us : Int) : exec (.setChannel i us) s = .next (Ops.setChannel i us s) :=
  next_whenRunning running _

theorem Ops.setChannel_accepted {i us : Int} (checked : inCommandRange i us = true) (s : State) :
    Ops.setChannel i us s = Ops.chSet i (BitVec.ofInt 32 us) s := if_pos checked

theorem Ops.setChannel_rejected {i us : Int} (unchecked : ¬ inCommandRange i us = true) (s : State) :
    Ops.setChannel i us s = Ops.raise .cmdReject s := if_neg unchecked

/-- Settles O57: a pair that passes the ingress is one CH_SET, any other leaves its label. -/
theorem setChannelCommand : Obligations.SetChannelCommand := by
  refine fun i us s running => ⟨?_, fun outside => ?_⟩
  · rintro j rfl least most
    have stored := Ops.setChannel_accepted ((inCommandRange_iff _ us).mpr ⟨⟨j, rfl⟩, least, most⟩) s
    refine ⟨(Ops.chSet ((j : Int) + 1) (BitVec.ofInt 32 us) s).ch, ?_, ?_, fun k other => Ops.chSet_succ_getElem_ne other _ s⟩
    · rw [exec_setChannel running, stored, Ops.chSet_succ]
    · rw [Ops.chSet_succ_getElem_self]
      exact BitVec.toInt_ofInt_eq_self (by decide) (by omega) (by omega)
  · have unchecked : ¬ inCommandRange i us = true := by
      rw [inCommandRange_iff]
      rintro ⟨⟨j, rfl⟩, least, most⟩
      exact outside ⟨by omega, by omega, least, most⟩
    rw [exec_setChannel running, Ops.setChannel_rejected unchecked, Ops.raise]

/-! `setChannels` (R182). -/

theorem exec_setChannels {s : State} (running : s.running) (pairs : List (Int × Int)) :
    exec (.setChannels pairs) s = .next (Ops.setChannels pairs s) := next_whenRunning running _

/-- What one pair of the command does: CH_SET for a pair in range, nothing for any other. -/
def Ops.applyPair (q : Int × Int) (s : State) : State :=
  if inCommandRange q.1 q.2 then Ops.chSet q.1 (BitVec.ofInt 32 q.2) s else s

/-- Whether a pair stores a value in `ch[j]`, the channel with the number `j + 1`. -/
def storesIn (j : Fin 16) (q : Int × Int) : Bool := q.1 = (j : Int) + 1 ∧ 1000 ≤ q.2 ∧ q.2 ≤ 2000

theorem storesIn_iff (j : Fin 16) (q : Int × Int) : storesIn j q = true ↔ inCommandRange q.1 q.2 = true ∧ q.1 = (j : Int) + 1 := by
  have named : q.1 = (j : Int) + 1 → ∃ j : Fin 16, q.1 = (j : Int) + 1 := fun e => ⟨j, e⟩
  rw [storesIn, decide_eq_true_iff, inCommandRange_iff]
  tauto

theorem Ops.applyPair_eq (q : Int × Int) (s : State) : Ops.applyPair q s = { s with ch := (Ops.applyPair q s).ch } := by
  unfold Ops.applyPair
  split
  · rcases Ops.chSet_cases q.1 (BitVec.ofInt 32 q.2) s with ⟨i, _, e⟩ | ⟨_, e⟩ <;> rw [e]
  · rfl

theorem Ops.applyPair_stores {j : Fin 16} {q : Int × Int} (stores : storesIn j q = true) (s : State) :
    (Ops.applyPair q s).ch[j] = BitVec.ofInt 32 q.2 := by
  obtain ⟨checked, named⟩ := (storesIn_iff j q).mp stores
  rw [Ops.applyPair, if_pos checked, named, Ops.chSet_succ_getElem_self]

/-- A pair out of range, or of another channel, keeps the channel. -/
theorem Ops.applyPair_keeps {j : Fin 16} {q : Int × Int} (other : ¬ storesIn j q = true) (s : State) : (Ops.applyPair q s).ch[j] = s.ch[j] := by
  by_cases checked : inCommandRange q.1 q.2 = true
  · obtain ⟨⟨i, named⟩, _⟩ := (inCommandRange_iff q.1 q.2).mp checked
    have apart : j ≠ i := by
      rintro rfl
      exact other ((storesIn_iff j q).mpr ⟨checked, named⟩)
    rw [Ops.applyPair, if_pos checked, named, Ops.chSet_succ_getElem_ne apart]
  · rw [Ops.applyPair, if_neg checked]

/-- The pairs are applied left to right, those out of range without effect. -/
theorem Ops.setChannels_eq_foldl (pairs : List (Int × Int)) (s : State) :
    Ops.setChannels pairs s = pairs.foldl (fun s q => Ops.applyPair q s) s := by
  induction pairs generalizing s with
  | nil => rfl
  | cons q qs ih =>
    rw [List.foldl_cons, ← ih, Ops.setChannels, Ops.ingress, Ops.applyPair]
    split <;> rfl

theorem Ops.setChannels_concat (pairs : List (Int × Int)) (q : Int × Int) (s : State) :
    Ops.setChannels (pairs ++ [q]) s = Ops.applyPair q (Ops.setChannels pairs s) := by
  simp only [Ops.setChannels_eq_foldl, List.foldl_append, List.foldl_cons, List.foldl_nil]

/-- `setChannels` writes the channel store alone. -/
theorem Ops.setChannels_eq (pairs : List (Int × Int)) (s : State) :
    Ops.setChannels pairs s = { s with ch := (Ops.setChannels pairs s).ch } := by
  induction pairs using List.reverseRecOn with
  | nil => rfl
  | append_singleton qs q ih =>
    rw [Ops.setChannels_concat, Ops.applyPair_eq]
    exact congrArg (fun t : State => { t with ch := (Ops.applyPair q (Ops.setChannels qs s)).ch }) ih

/-- A channel holds the value of the last pair that stores one there, and its old value if no pair does. -/
theorem Ops.setChannels_getElem (pairs : List (Int × Int)) (s : State) (j : Fin 16) :
    (Ops.setChannels pairs s).ch[j] = (pairs.filter (storesIn j)).getLast?.elim s.ch[j] fun q => BitVec.ofInt 32 q.2 := by
  induction pairs using List.reverseRecOn with
  | nil => rfl
  | append_singleton qs q ih =>
    rw [Ops.setChannels_concat, List.filter_append]
    by_cases stores : storesIn j q = true
    · rw [Ops.applyPair_stores stores, List.filter_cons_of_pos stores, List.filter_nil, List.getLast?_concat, Option.elim_some]
    · rw [Ops.applyPair_keeps stores, List.filter_cons_of_neg stores, List.filter_nil, List.append_nil, ih]

/-- Settles O58: the pairs from the last one back; the last that stores in a channel decides its value. -/
theorem setChannelsCommand : Obligations.SetChannelsCommand := by
  refine fun pairs s running => ⟨(Ops.setChannels pairs s).ch, ?_, fun j => (Ops.setChannels_getElem pairs s j).trans ?_⟩
  · rw [exec_setChannels running, ← Ops.setChannels_eq]
  · change _ = match (pairs.filter (storesIn j)).getLast? with | some q => _ | none => _
    cases (pairs.filter (storesIn j)).getLast? <;> rfl

end Sys2Proof.Machine
end

section
/-! PROOF. A step with an invocation scheduled (46_control_inputs.md R188, R189; 70_reset_and_hazards.md R233): an operation whose agent is between operations
runs in the state as it is, an invalid command is dropped, a line of open form is one or the other. -/

namespace Sys2Proof.Machine

/-- An invocation that is scheduled runs whole. -/
theorem step_invoke {s : State} {e : Encoded} {rest : List Entry} (scheduled : s.agenda = .invoke e :: rest) :
    step s = receive exec e { s with agenda := rest } := step_of_agenda scheduled

theorem step_unscheduled {s : State} (unscheduled : s.agenda = []) : step s = .next s := by simp [step, unscheduled]

theorem receive_of_invalid {e : Encoded} (invalid : decode e = .error .invalidCommand) (go : Instr → State → Answer) (s : State) :
    receive go e s = .next (Ops.dropCommand s) := by
  simp [receive, fetch, invalid]

/-- A line of open form is that command or an invalid one (91_not_in_source.md N9). -/
theorem receive_of_open {e : Encoded} {i : Instr} (isOpen : decode e = .error (.openLexicalForm i)) (go : Instr → State → Answer) (s : State) :
    receive go e s = go i (Agents.settle i (Ops.countFree s)) ∨ receive go e s = .next (Ops.dropCommand (Ops.countFree s)) := by
  simp only [receive, fetch, isOpen]
  split
  · exact .inl rfl
  · exact .inr rfl

theorem Ops.dropCommand_running {s : State} (running : s.running) : Ops.dropCommand s = { s with events := s.events ++ [.cmdReject] } :=
  Ops.whenRunning_run _ _ running

theorem Ops.dropCommand_stopped {s : State} (halted : s.stopped = true) : Ops.dropCommand s = s := Ops.whenRunning_stopped _ _ halted

/-- An operation begins in the state as it is where the plan of its agent is empty or the block is stopped. -/
theorem Agents.settle_ready {i : Instr} {s : State}
    (ready : s.stopped = true ∨ ((i.engine = some .rx → s.rxPlan = []) ∧ (i.engine = some .tx → s.txPlan = []))) : Agents.settle i s = s := by
  rcases ready with halted | ⟨rxIdle, txIdle⟩
  · exact Agents.settle_stopped i s halted
  · refine Agents.settle_idle i s fun a agent => ?_
    cases a with
    | rx => exact rxIdle agent
    | tx => exact txIdle agent

/-- A text command is never an operation of the RX engine (46_control_inputs.md R180). -/
theorem engine_ne_rx_of_isText {i : Instr} (text : i.isText) : i.engine ≠ some .rx := by
  cases i with
  | sendChannels | setModeText => exact nofun
  | setChannel | setChannels =>
    rw [Instr.engine]
    split <;> exact nofun
  | _ => exact text.elim

/-- Settles O9: by what the invocation decodes to, and whether its agent can begin it. -/
theorem stepRunsTheDecodedOperation : Obligations.StepRunsTheDecodedOperation := by
  refine ⟨fun s e rest i scheduled decoded ready => ?_, fun s now line rest scheduled invalid => ?_,
    fun s now line rest i scheduled isOpen running txIdle => ?_, fun s => step_unscheduled⟩
  · rw [step_invoke scheduled, receive_of_decode decoded, Agents.settle_ready (s := { s with agenda := rest }) ready]
  · rw [step_invoke scheduled, receive_of_invalid invalid]
    exact ⟨fun running => congrArg _ (Ops.dropCommand_running running), fun halted => congrArg _ (Ops.dropCommand_stopped halted)⟩
  · have text : i.isText := decodeLine_isText (.inr isOpen)
    have settled : Agents.settle i (Ops.countFree { s with agenda := rest }) = Ops.countFree { s with agenda := rest } :=
      Agents.settle_ready (.inr ⟨fun agent => absurd agent (engine_ne_rx_of_isText text), fun _ => txIdle⟩)
    rw [step_invoke scheduled]
    rcases receive_of_open isOpen exec { s with agenda := rest } with runs | drops
    · left
      rw [runs, settled, Ops.countFree]
    · right
      have counted : (Ops.countFree { s with agenda := rest }).running := running
      rw [drops, Ops.dropCommand_running counted, Ops.countFree]

end Sys2Proof.Machine
end

section
/-! PROOF. Faults and refusals (60_exceptions.md R200, R212, R217): no operation faults, and the entry condition of a row (logs 13, 14) is all that can keep
it from its step. -/

namespace Sys2Proof.Machine

/-- The entry condition of a row fails, with the name of its refusal: the candidate is another case's (log 13), or no frame is at the stage that the send
sub-step starts from (log 14). -/
inductive Unmet (s : State) : Instr → Refusal → Prop
  | waitHdr : frameCheck s.rxBuf ≠ .waitHdr → Unmet s .waitHdr .caseNotSelected
  | resync : frameCheck s.rxBuf ≠ .resync → Unmet s .resync .caseNotSelected
  | waitBody : (∀ L, frameCheck s.rxBuf ≠ .waitBody L) → Unmet s .waitBody .caseNotSelected
  | crcOk (now : Time) : (∀ L, frameCheck s.rxBuf ≠ .crcOk L) → Unmet s (.crcOk now) .caseNotSelected
  | crcBad : (∀ L, frameCheck s.rxBuf ≠ .crcBad L) → Unmet s .crcBad .caseNotSelected
  | sendGate : (∀ f, s.txInflight ≠ .built f) → Unmet s .sendGate .noFrameInFlight
  | sendEmit : (∀ f, s.txInflight ≠ .passed f) → Unmet s .sendEmit .noFrameInFlight

/-- By `other` the row's match does not take the arm of its step, which leaves the refusing one. -/
theorem exec_of_unmet {s : State} {i : Instr} {r : Refusal} (unmet : Unmet s i r) : exec i s = .refused r := by
  cases unmet with
  | waitHdr other | resync other => simp only [exec, execWaitHdr, execResync]
  | waitBody other | crcOk _ other | crcBad other => simp only [exec, execWaitBody, execCrcOk, execCrcBad]
  | sendGate other | sendEmit other => simp only [exec, execSendGate, execSendEmit]

/-- Every operation has its step unless its entry condition fails. -/
theorem exec_next_or_unmet (i : Instr) (s : State) : (∃ t, exec i s = .next t) ∨ ∃ r, Unmet s i r := by
  cases i with
  | waitHdr =>
    refine (em (frameCheck s.rxBuf = .waitHdr)).imp (fun selected => ?_) fun other => ⟨_, .waitHdr other⟩
    simp [exec, execWaitHdr, selected]
  | resync =>
    refine (em (frameCheck s.rxBuf = .resync)).imp (fun selected => ?_) fun other => ⟨_, .resync other⟩
    simp [exec, execResync, selected]
  | waitBody =>
    refine (em (∃ L, frameCheck s.rxBuf = .waitBody L)).imp (fun ⟨L, selected⟩ => ?_) fun other => ⟨_, .waitBody (not_exists.mp other)⟩
    simp [exec, execWaitBody, selected]
  | crcOk now =>
    refine (em (∃ L, frameCheck s.rxBuf = .crcOk L)).imp (fun ⟨L, selected⟩ => ?_) fun other => ⟨_, .crcOk now (not_exists.mp other)⟩
    simp [exec, execCrcOk, selected]
  | crcBad =>
    refine (em (∃ L, frameCheck s.rxBuf = .crcBad L)).imp (fun ⟨L, selected⟩ => ?_) fun other => ⟨_, .crcBad (not_exists.mp other)⟩
    simp [exec, execCrcBad, selected]
  | sendGate =>
    refine (em (∃ f, s.txInflight = .built f)).imp (fun ⟨f, built⟩ => ?_) fun other => ⟨_, .sendGate (not_exists.mp other)⟩
    simp [exec, execSendGate, built]
  | sendEmit =>
    refine (em (∃ f, s.txInflight = .passed f)).imp (fun ⟨f, passed⟩ => ?_) fun other => ⟨_, .sendEmit (not_exists.mp other)⟩
    simp [exec, execSendEmit, passed]
  | _ => exact .inl ⟨_, rfl⟩

/-- Settles O14: a row without its step has its entry condition unmet, and an unmet entry condition is a refusal. -/
theorem noOperationFaults : Obligations.NoOperationFaults := by
  refine ⟨fun i s => ?_, fun s => ?_⟩
  · obtain answers | ⟨r, unmet⟩ := exec_next_or_unmet i s
    · exact .inl answers
    have refused := exec_of_unmet unmet
    right
    cases unmet with
    | waitHdr other => exact .inl ⟨refused, .inl ⟨rfl, other⟩⟩
    | resync other => exact .inl ⟨refused, .inr (.inl ⟨rfl, other⟩)⟩
    | waitBody other => exact .inl ⟨refused, .inr (.inr (.inl ⟨rfl, other⟩))⟩
    | crcOk now other => exact .inl ⟨refused, .inr (.inr (.inr (.inl ⟨⟨now, rfl⟩, other⟩)))⟩
    | crcBad other => exact .inl ⟨refused, .inr (.inr (.inr (.inr ⟨rfl, other⟩)))⟩
    | sendGate other => exact .inr ⟨refused, .inl ⟨rfl, other⟩⟩
    | sendEmit other => exact .inr ⟨refused, .inr ⟨rfl, other⟩⟩
  · exact ⟨fun other => exec_of_unmet (.waitHdr other), fun other => exec_of_unmet (.resync other),
      fun other => exec_of_unmet (.waitBody other), fun now other => exec_of_unmet (.crcOk now other),
      fun other => exec_of_unmet (.crcBad other), fun other => exec_of_unmet (.sendGate other),
      fun other => exec_of_unmet (.sendEmit other)⟩

end Sys2Proof.Machine
end

section
/-! PROOF. Reset and the hazard of a link that goes down between gate and emit (70_reset_and_hazards.md R230, R244). -/

namespace Sys2Proof.Machine

/-- Every channel starts at `CH_RESET` (10_state.md R15). -/
theorem State.resetWith_ch (m : Mode) (v : Bool) (i : Fin 16) : ((State.resetWith m v).ch[i]).toInt = 1500 :=
  congrArg BitVec.toInt (Vector.getElem_replicate (a := Config.chReset) i.isLt)

theorem State.resetWith_linkstat (m : Mode) (v : Bool) (i : Fin 10) : (State.resetWith m v).linkstat.bytes[i] = 0 :=
  Vector.getElem_replicate i.isLt

/-- Settles O12: the two arrays by their elements, every other value as the reset state lists it. -/
theorem resetLeavesTheTableOfValues : Obligations.ResetLeavesTheTableOfValues :=
  ⟨fun m v => ⟨rfl, rfl, rfl, rfl, rfl, rfl, State.resetWith_ch m v, rfl, rfl, rfl, State.resetWith_linkstat m v,
    rfl, rfl, rfl, rfl, rfl, rfl, rfl, rfl⟩, .joystick, rfl⟩

theorem exec_sendEmit_accepted {f : List Byte} {as : List EmitAnswer} {s : State} (running : s.running)
    (passed : s.txInflight = .passed f) (ready : s.emitAnswers = .accepted :: as) :
    exec .sendEmit s = .next { s with txInflight := .none, emitAnswers := as, txLine := s.txLine ++ [.frame f] } := by
  rw [exec_sendEmit passed running, Ops.sendEmit_accepted passed ready]

/-- A frame past the gate goes out although LDN lowers the link first: SEND_EMIT does not test the link again (20_memory.md R55). -/
theorem execAll_ldn_sendEmit {f : List Byte} {as : List EmitAnswer} {now : Time} {s : State} (running : s.running)
    (passed : s.txInflight = .passed f) (up : s.linkUp = true) (late : 120000 < (now - s.lastReceiveMs).toNat)
    (ready : s.emitAnswers = .accepted :: as) :
    execAll [.ldn now, .sendEmit] s =
      .next { s with linkUp := false, events := s.events ++ [.onLinkDown], txInflight := .none, emitAnswers := as,
                     txLine := s.txLine ++ [.frame f] } := by
  rw [execAll_cons (exec_ldn running now), Ops.ldn_late up late]
  exact execAll_cons (exec_sendEmit_accepted (s := { s with linkUp := false, events := s.events ++ [.onLinkDown] }) running passed ready) []

/-- Settles O52: the gate passes the frame while the link is up, and what follows does not hold it back. -/
theorem oneFrameAfterLinkDown : Obligations.OneFrameAfterLinkDown := by
  intro f as now s running built up late ready
  rw [execAll_cons (exec_sendGate running built), Ops.sendGate_open built ((gateOpen_iff s).mpr (.inl up))]
  exact ⟨_, execAll_ldn_sendEmit (s := { s with txInflight := .passed f }) running rfl up late ready, rfl, rfl, rfl, rfl⟩

end Sys2Proof.Machine
end
